-- ==== Sys2Proof/Word.lean ====
section
/-! DEFINITION. The units of the links and of the string: bytes, drive positions, paths, tags, and fixed-length stores kept by drive, path or tag. -/

namespace Sys2Proof

/-- A byte on a path link or on the shared data lines (R170). -/
abbrev Byte := BitVec 8

/-- A drive position 0–7 (00_scope.md, Table 5-1). -/
abbrev Drive := Fin 8

/-- The tag 0–3 a path gives an order (00_scope.md, section 7). -/
abbrev Tag := Fin 4

/-- The five paths: the host paths A–D and the service path S (00_scope.md, section 3). -/
inductive Path where
  | a | b | c | d | s
deriving DecidableEq, Repr

/-- The five paths in the order A, B, C, D, S. -/
def allPaths : List Path := [.a, .b, .c, .d, .s]

/-- The eight drive positions in ascending order. -/
def allDrives : List Drive := [0, 1, 2, 3, 4, 5, 6, 7]

/-- The four tags in ascending order. -/
def allTags : List Tag := [0, 1, 2, 3]

/-- One value for each drive position. -/
structure PerDrive (α : Type) where
  v0 : α
  v1 : α
  v2 : α
  v3 : α
  v4 : α
  v5 : α
  v6 : α
  v7 : α
deriving DecidableEq, Repr

/-- The same value for every drive position. -/
def PerDrive.const {α : Type} (x : α) : PerDrive α := ⟨x, x, x, x, x, x, x, x⟩

/-- The value of one drive position. -/
def PerDrive.get {α : Type} (v : PerDrive α) (d : Drive) : α :=
  match d with
  | 0 => v.v0 | 1 => v.v1 | 2 => v.v2 | 3 => v.v3
  | 4 => v.v4 | 5 => v.v5 | 6 => v.v6 | 7 => v.v7

/-- The store with the value of one drive position replaced. -/
def PerDrive.set {α : Type} (v : PerDrive α) (d : Drive) (x : α) : PerDrive α :=
  match d with
  | 0 => { v with v0 := x } | 1 => { v with v1 := x }
  | 2 => { v with v2 := x } | 3 => { v with v3 := x }
  | 4 => { v with v4 := x } | 5 => { v with v5 := x }
  | 6 => { v with v6 := x } | 7 => { v with v7 := x }

/-- One value for each path. -/
structure PerPath (α : Type) where
  a : α
  b : α
  c : α
  d : α
  s : α
deriving DecidableEq, Repr

/-- The value of one path. -/
def PerPath.get {α : Type} (v : PerPath α) (p : Path) : α :=
  match p with
  | .a => v.a | .b => v.b | .c => v.c | .d => v.d | .s => v.s

/-- The store with the value of one path replaced. -/
def PerPath.set {α : Type} (v : PerPath α) (p : Path) (x : α) : PerPath α :=
  match p with
  | .a => { v with a := x } | .b => { v with b := x } | .c => { v with c := x }
  | .d => { v with d := x } | .s => { v with s := x }

/-- One value for each of four places: the tag slots of a path, the seek profiles. -/
structure Four (α : Type) where
  v0 : α
  v1 : α
  v2 : α
  v3 : α
deriving DecidableEq, Repr

/-- The same value in all four places. -/
def Four.const {α : Type} (x : α) : Four α := ⟨x, x, x, x⟩

/-- The value in one place. -/
def Four.get {α : Type} (v : Four α) (t : Fin 4) : α :=
  match t with
  | 0 => v.v0 | 1 => v.v1 | 2 => v.v2 | 3 => v.v3

/-- The store with the value in one place replaced. -/
def Four.set {α : Type} (v : Four α) (t : Fin 4) (x : α) : Four α :=
  match t with
  | 0 => { v with v0 := x } | 1 => { v with v1 := x }
  | 2 => { v with v2 := x } | 3 => { v with v3 := x }

end Sys2Proof
end

