-- ==== Sys2Proof/Syntax.lean ====
section
/-! DEFINITION. The commands of the director: one constructor for each row of spec/opcode_table.json, with the row's operands. -/

namespace Sys2Proof

/-- The address mark of a sector as it stands on the medium (R29): cylinder 0–1023, head 0–15,
sector 0–31, alternate flag. -/
structure Mark where
  cyl  : BitVec 10
  head : BitVec 4
  sec  : BitVec 5
  alt  : Bool
deriving DecidableEq, Repr

/-- What the check unit finds in a sector's check field and data (R91, R92): the damage tag, agreement, a
located burst (first bit and length), or an error past correction with the burst length it reports.
Bit 0 of a block is the most significant bit of its first byte (DESIGN CHOICE; safe, it only numbers an
operand; log entry 9). -/
inductive Check where
  | damageTag
  | clean
  | burst (start len : Nat)
  | uncorrectable (len : Nat)
deriving DecidableEq, Repr

/-- What the medium yields for one sector read: the data bytes and what the check finds (00_scope.md,
section 2; R91). -/
structure Yield where
  data  : List Byte
  check : Check
deriving DecidableEq, Repr

/-- The events at which a miss can be taken (R75, Table 4-2; R11): a sector pulse, an index pulse, and
the beginning of an order frame. -/
inductive MissEvent where
  | pulse (d : Drive) (mark : Mark)
  | index (d : Drive)
  | orderFrame (p : Path) (frame : List Byte)
deriving DecidableEq, Repr

/-- The commands. `ended` is the list of paths whose order frames have ended when the order decoder
makes its turn (R162; log entry 10). -/
inductive Instr where
  /-- POWER_ON_RESET -/
  | powerOnReset
  /-- ONLINE_RISE: the online line of the drive rises. -/
  | onlineRise (d : Drive)
  /-- ONLINE_FALL: the online line of the drive falls. -/
  | onlineFall (d : Drive)
  /-- GATE_OPEN: the first time-base tick of a spin check; `high` is the sector line's level. -/
  | gateOpen (d : Drive) (high : Bool)
  /-- GATE_CLOSE: the tick that closes the open gate; `high` is the sector line's level. -/
  | gateClose (d : Drive) (high : Bool)
  /-- SPIN_CHECK_GIVE_UP: the close of the 30th gate without completing the spin check. -/
  | spinCheckGiveUp (d : Drive) (high : Bool)
  /-- INDEX_PULSE -/
  | indexPulse (d : Drive)
  /-- CLOCK_FAULT: the index pulse that brings the mismatch count to 2. -/
  | clockFault (d : Drive)
  /-- SECTOR_PULSE: `mark` is the address mark of the sector that begins. -/
  | sectorPulse (d : Drive) (mark : Mark)
  /-- SEEK_COMPLETE -/
  | seekComplete (d : Drive)
  /-- SEEK_LIMIT -/
  | seekLimit (d : Drive)
  /-- FAULT_RISE -/
  | faultRise (d : Drive)
  /-- ORDER_FRAME_BEGIN: the host side begins an order frame of these bytes. -/
  | orderFrameBegin (p : Path) (frame : List Byte)
  /-- READ taken by the decoder -/
  | read (ended : List Path)
  /-- WRITE taken by the decoder -/
  | write (ended : List Path)
  /-- VERIFY taken by the decoder -/
  | verify (ended : List Path)
  /-- POSITION taken by the decoder -/
  | position (ended : List Path)
  /-- RESERVE taken by the decoder -/
  | reserve (ended : List Path)
  /-- RELEASE taken by the decoder -/
  | release (ended : List Path)
  /-- RECALIBRATE taken by the decoder; `gone` says whether the condition that raised the drive's fault
  line has gone when fault clear reaches it (Table 1-1). -/
  | recalibrate (ended : List Path) (gone : Bool)
  /-- SET_GROUP taken by the decoder -/
  | setGroup (ended : List Path)
  /-- SET_NOTICES taken by the decoder -/
  | setNotices (ended : List Path)
  /-- CLEAR_NOTICES taken by the decoder -/
  | clearNotices (ended : List Path)
  /-- REPORT_CONDITION taken by the decoder -/
  | reportCondition (ended : List Path)
  /-- FETCH_GEOMETRY taken by the decoder -/
  | fetchGeometry (ended : List Path)
  /-- FETCH_PROFILE taken by the decoder -/
  | fetchProfile (ended : List Path)
  /-- FETCH_SPARE_MAP taken by the decoder -/
  | fetchSpareMap (ended : List Path)
  /-- FETCH_EXTENTS taken by the decoder -/
  | fetchExtents (ended : List Path)
  /-- FETCH_LADDER taken by the decoder -/
  | fetchLadder (ended : List Path)
  /-- FETCH_POLICY taken by the decoder -/
  | fetchPolicy (ended : List Path)
  /-- FETCH_WATCH taken by the decoder -/
  | fetchWatch (ended : List Path)
  /-- FETCH_DRIVE_STATUS taken by the decoder -/
  | fetchDriveStatus (ended : List Path)
  /-- RESET_PATH, taken by its port -/
  | resetPath (p : Path)
  /-- LOAD_TABLE taken by the decoder -/
  | loadTable (ended : List Path)
  /-- ASSIGN_ALTERNATE taken by the decoder -/
  | assignAlternate (ended : List Path)
  /-- FORCE_RELEASE taken by the decoder -/
  | forceRelease (ended : List Path)
  /-- DIRECTOR_RESET taken by the decoder -/
  | directorReset (ended : List Path)
  /-- ACCEPT: a frame of type 02H arrives with these bytes. -/
  | accept (p : Path) (frame : List Byte)
  /-- DATA_FRAME: the data bytes of one data frame; `last` says the data on the link ends with it. -/
  | dataFrame (p : Path) (data : List Byte) (last : Bool)
  /-- FRAME_SENT: the frame going out has gone out; `portFirst` says the port's own next frame is taken
  before a grant of the engine at this moment (R160). -/
  | frameSent (p : Path) (portFirst : Bool)
  /-- ENDING_FRAME_BEGIN -/
  | endingFrameBegin (p : Path)
  /-- NOTICE_FRAME_BEGIN -/
  | noticeFrameBegin (p : Path)
  /-- SELECTION -/
  | selection (d : Drive)
  /-- STALLED: the event whose miss reaches the stall limit. -/
  | stalled (e : MissEvent)
  /-- SECTOR_END: the sector in hand ends with what the medium yielded. -/
  | sectorEnd (d : Drive) (yield : Yield)
  /-- RELOCATION_START -/
  | relocationStart
  /-- READ_PASS_REVOLUTION_END -/
  | readPassRevolutionEnd
  /-- TRACK_WALK_REVOLUTION_END -/
  | trackWalkRevolutionEnd
  /-- COMMIT_BEGIN -/
  | commitBegin
  /-- VERIFY_REVOLUTION_END -/
  | verifyRevolutionEnd
  /-- SCAN_PASS_START -/
  | scanPassStart (d : Drive)
  /-- SCAN_PASS_COMPLETE -/
  | scanPassComplete (d : Drive)
  /-- UNKNOWN_ORDER_CODE taken by the decoder -/
  | unknownOrderCode (ended : List Path)
deriving DecidableEq, Repr

end Sys2Proof
end

