-- ==== Sys2Proof/Decode.lean ====
section
/-! DEFINITION. Commands from words: spec/opcode_table.json gives no row any bits (every "fields" list is empty), so no word spells a command. The order frames' bytes are read in Machine/Operands.lean. -/

namespace Sys2Proof

/-- The command that a word of the table's bits spells: none, for the table gives no row any bits. -/
def decodeTableWord (_nbits _w : Nat) : Option Instr := none

end Sys2Proof
end

