-- ==== Sys2Proof/Config.lean ====
section
/-! DEFINITION. The fixed quantities of the director (00_scope.md, Table 5-1) and the values its manual does not state. -/

namespace Sys2Proof.Config

/-- Sectors on a track. -/
def sectors : Nat := 32
/-- Data bytes of a block. -/
def blockBytes : Nat := 512
/-- Requests a drive queue holds, the one in service counted (R45). -/
def queueCapacity : Nat := 8
/-- The seek limit in sector periods (R13). -/
def seekLimit : Nat := 160
/-- The lowest pulse count that passes a gate (R8). -/
def gateLow : Nat := 188
/-- The highest pulse count that passes a gate (R8). -/
def gateHigh : Nat := 196
/-- The gate at whose close the spin check is given up (R8). -/
def gateLimit : Nat := 30
/-- The age at which a waiting entry is overdue (R58). -/
def overdueAge : Nat := 15
/-- Records the spare map holds (R33). -/
def mapCapacity : Nat := 96
/-- Entries the watch list holds (R111). -/
def watchCapacity : Nat := 16
/-- Entries the relocation queue holds (R116). -/
def relocationCapacity : Nat := 4

/-- The entry concerned that the ending TABLE INVALID names for an addressing fault of EXTENTS, LADDER
or POLICY (table code, first entry, count). R171's last column states it for the other tables and
leaves it open for these three: a free value (DESIGN CHOICE; safe; log entry 21). -/
opaque unstatedEntry : Nat → Nat → Nat → Option Nat

/-- The answer to the n-th choice between a port's own waiting frame and a grant of the engine that would put a
recall on its link: whether the port's frame goes first. R160 says that the two may be taken in either order: a free
value (DESIGN CHOICE; safe; log entry 12). -/
opaque portFirst : Nat → Bool

end Sys2Proof.Config
end

