-- ==== Sys2Proof/Machine/State.lean ====
section
/-! DEFINITION. The state of the Dolzes 816 String Director as plain data, and its value after power-on reset. -/

namespace Sys2Proof.Machine

/-! ## Addresses (00_scope.md section 5) -/

/-- A track (cylinder, head). -/
structure Track where
  cyl  : Nat
  head : Nat
deriving DecidableEq, Repr

/-- A block address (cylinder, head, sector). -/
structure Addr where
  cyl  : Nat
  head : Nat
  sec  : Nat
deriving DecidableEq, Repr

/-! ## Drive monitor and string port (chapter 1) -/

/-- The states of a drive monitor (Table 1-4), in the order of Table 1-3. -/
inductive DriveState where
  | absent | offline | spinCheck | ready | seeking | orienting | transferring | recalibrating | faulted
deriving DecidableEq, Repr

/-- Fault causes (Table 1-6). -/
inductive FaultCause where
  | none | speed | clock | seek | write | line
deriving DecidableEq, Repr

/-- The mark check of a drive monitor (Table 1-3, R14, R15). -/
inductive MarkCheck where
  | none | pending | reseek
deriving DecidableEq, Repr

/-- Why a drive is RECALIBRATING, which decides what seek-complete does: a completed spin check (R9), a
RECALIBRATE from READY (R17) or from FAULTED (R18), a mark mismatch (R14), or nothing further (R15, R22,
R23, R138). -/
inductive Recal where
  | spinCheck | order | orderFaulted | reseek | plain
deriving DecidableEq, Repr

/-- The drive monitor record (Table 1-3), with the open gate of R7 and the purpose of a recalibrate. -/
structure Monitor where
  state          : DriveState
  cause          : FaultCause
  cylinder       : Nat
  head           : Nat
  target         : Nat
  sector         : Nat
  indexTaken     : Bool
  mismatch       : Nat
  seekTimer      : Nat
  markCheck      : MarkCheck
  gatePulses     : Nat
  gatePasses     : Nat
  gateFails      : Nat
  lastGatePassed : Bool
  pointer        : Track
  gateOpen       : Bool
  recal          : Recal
deriving DecidableEq, Repr

/-- Table 1-3's after-power-on values. -/
def Monitor.initial : Monitor where
  state := .absent
  cause := .none
  cylinder := 0
  head := 0
  target := 0
  sector := 0
  indexTaken := false
  mismatch := 0
  seekTimer := 0
  markCheck := .none
  gatePulses := 0
  gatePasses := 0
  gateFails := 0
  lastGatePassed := false
  pointer := ⟨0, 0⟩
  gateOpen := false
  recal := .plain

/-- Head offset (Table 1-1, Table 5-3). -/
inductive Offset where
  | none | inward | outward
deriving DecidableEq, Repr

/-- Data strobe (Table 1-1, Table 5-3). -/
inductive Strobe where
  | normal | early | late
deriving DecidableEq, Repr

/-- The actuator motion that the last command asked for and seek-complete has not closed (Table 1-1). -/
inductive Motion where
  | none | seek (cyl : Nat) | recalibrate
deriving DecidableEq, Repr

/-- What the string port's commands have left standing at one drive (R1), and the levels of its online
and fault lines (R3, R5, R18). -/
structure DriveSide where
  head       : Nat
  offset     : Offset
  strobe     : Strobe
  motion     : Motion
  onlineLine : Bool
  faultLine  : Bool
deriving DecidableEq, Repr

/-- Settings NONE and NORMAL (R2); lines low, no motion, head 0 (DESIGN CHOICE; unsafe; log entry 7). -/
def DriveSide.initial : DriveSide := ⟨0, .none, .normal, .none, false, false⟩

/-- A read gate or a write gate (Table 1-1). -/
inductive GateKind where
  | read | write
deriving DecidableEq, Repr

/-- The one gate raised and its drive (R2). -/
structure Gate where
  drive : Drive
  kind  : GateKind
deriving DecidableEq, Repr

/-- The check field written with a block (R91). -/
inductive CheckOut where
  | computed | damageTag
deriving DecidableEq, Repr

/-- The last sector written on the shared data lines (R82, R126): the mark is written in a COMMIT only. -/
structure WriteOut where
  drive : Drive
  addr  : Addr
  mark  : Option Mark
  data  : List Byte
  check : CheckOut
deriving DecidableEq, Repr

/-! ## Drive queues (chapter 3) -/

/-- The queued orders (R164). -/
inductive QOrder where
  | read | write | verify | position | reserve | release | recalibrate
deriving DecidableEq, Repr

/-- Outcome so far of a request (Table 3-2). -/
inductive SoFar where
  | none | corrected | recovered
deriving DecidableEq, Repr

/-- The request record (Table 3-2). -/
structure Request where
  path           : Path
  tag            : Tag
  order          : QOrder
  addr           : Addr
  count          : Nat
  lastBytes      : Nat
  direct         : Bool
  reserveIfClean : Bool
  age            : Nat
  missCount      : Nat
  continuation   : Bool
  resume         : Bool
  blocksDone     : Nat
  outcome        : SoFar
  inService      : Bool
deriving DecidableEq, Repr

/-! ## Transfer engine (chapter 4) -/

/-- Work that the engine may hold or that waits for it (Table 4-1). -/
inductive Work where
  | host (d : Drive) (p : Path) (t : Tag)
  | reloc (d : Drive)
  | scan (d : Drive)
deriving DecidableEq, Repr

/-- Engine phases (Table 4-1). -/
inductive Phase where
  | free | recalling | running | draining | pass
deriving DecidableEq, Repr

/-- Current block: its block number and its physical address (Table 4-1). -/
structure CurBlock where
  block : Nat
  phys  : Addr
deriving DecidableEq, Repr

/-- States of a staging slot (R77). -/
inductive SlotState where
  | empty | filling | full
deriving DecidableEq, Repr

/-- A staging slot: its state, the number of the block it holds, the bytes (R77). -/
structure Slot where
  st    : SlotState
  block : Nat
  bytes : List Byte
deriving DecidableEq, Repr

/-- An EMPTY slot. -/
def Slot.none : Slot := ⟨.empty, 0, []⟩

/-- The lookahead's answer (R43, R85). -/
structure NextTrack where
  track   : Track
  sameCyl : Bool
deriving DecidableEq, Repr

/-- Merge stage (Table 4-1, R83). -/
inductive Merge where
  | none | oldRead | merged
deriving DecidableEq, Repr

/-- The five read outcomes (R92). -/
inductive ReadOutcome where
  | clean | correctable | uncorrectable | damaged | mismatch
deriving DecidableEq, Repr

/-- What is done in the sector in hand: a block's first read, a reread of a walk, a write of these bytes for
this logical track, a write withheld because its mark failed, a read of a pass, a write of a COMMIT's write
revolution, or its CHECK sector. -/
inductive HandOp where
  | firstRead
  | reread
  | write (logical : Track) (bytes : List Byte)
  | markFail
  | passRead
  | passWrite (out : WriteOut)
  | check
deriving DecidableEq, Repr

/-- The sector in hand, from its pulse to its end (R78, R82); `met` says its mark met its expectation. -/
structure Hand where
  drive : Drive
  phys  : Addr
  op    : HandOp
  met   : Bool
deriving DecidableEq, Repr

/-- The block concerned by an ending or a note: its logical address (absent for a direct request), its
physical address, and whether that lies on an alternate (R107, Table 5-5). -/
structure Concerned where
  logical : Option Addr
  phys    : Addr
  alt     : Bool
deriving DecidableEq, Repr

/-- Ending codes (Table 9-5). -/
inductive Code where
  | normal | corrected | recovered
  | dataCheck | damaged | writeFault | seekFault | driveLost | stalled | abandoned
  | fenced | readOnly | reservedElsewhere
  | badOrder | notPermitted | tagInUse | noDrive | notReady | outsideVolume | queueFull | noGroup
  | busy | tableInvalid
deriving DecidableEq, Repr

/-- What follows when the path has taken the blocks left: the ending of R87, a continuation (R85), or the
failure ending of R99. -/
inductive Drain where
  | finish
  | carryOn
  | fail (code : Code) (block : Concerned)
deriving DecidableEq, Repr

/-- A stop that waits for the end of the sector in hand: none, one with no request left to end (R22, R23,
R89, R90), or one that ends its request with this code (R158). -/
inductive Stop where
  | none
  | drop
  | ending (code : Code)
deriving DecidableEq, Repr

/-- The outcome of one sector of a relocation pass, with the bytes read. -/
structure PassResult where
  sec     : Nat
  outcome : ReadOutcome
  bytes   : List Byte
deriving DecidableEq, Repr

/-- The transfer engine record (Table 4-1), with what R72, R77, R78, R82 and R85 imply beside it. -/
structure Engine where
  holder     : Option Work
  phase      : Phase
  current    : Option CurBlock
  slot1      : Slot
  slot2      : Slot
  nextTrack  : Option NextTrack
  merge      : Merge
  resume     : Bool
  candidates : List Work
  turn2      : Bool
  hand       : Option Hand
  drain      : Drain
  stop       : Stop
  begun      : Nat
  results    : List PassResult
deriving DecidableEq, Repr

/-- Table 4-1's after-power-on values, with a given candidate list. -/
def Engine.freeWith (cands : List Work) : Engine where
  holder := Option.none
  phase := .free
  current := Option.none
  slot1 := Slot.none
  slot2 := Slot.none
  nextTrack := Option.none
  merge := .none
  resume := false
  candidates := cands
  turn2 := false
  hand := Option.none
  drain := .finish
  stop := .none
  begun := 0
  results := []

/-! ## Recovery control (chapter 5) -/

/-- A step of the retry ladder (Table 5-3). -/
structure LadderStep where
  offset  : Offset
  strobe  : Strobe
  rereads : Nat
deriving DecidableEq, Repr

/-- Kind of a block walk (Table 5-2). -/
inductive WalkKind where
  | readBlock | writeMark
deriving DecidableEq, Repr

/-- A block walk (Table 5-2). -/
structure BlockWalk where
  kind   : WalkKind
  drive  : Drive
  path   : Path
  tag    : Tag
  block  : Concerned
  ladder : List LadderStep
  step   : Nat
  left   : Nat
deriving DecidableEq, Repr

/-- The track walk of the read pass (Table 5-2). -/
structure TrackWalk where
  drive   : Drive
  track   : Track
  failing : List Nat
  ladder  : List LadderStep
  step    : Nat
  left    : Nat
deriving DecidableEq, Repr

/-- The note of an outstanding request (Table 5-2). -/
structure Note where
  path     : Path
  tag      : Tag
  lastStep : Nat
  burst    : Nat
  block    : Option Concerned
deriving DecidableEq, Repr

/-- What a HELD condition record describes (Table 5-6). -/
structure Condition where
  tag      : Option Tag
  code     : Code
  drive    : Option Drive
  block    : Option Concerned
  lastStep : Nat
  burst    : Nat
deriving DecidableEq, Repr

/-- The condition record: EMPTY when `held` is none (Table 5-6). -/
structure ConditionRecord where
  held    : Option Condition
  further : Nat
deriving DecidableEq, Repr

/-! ## Relocation control (chapter 6) -/

/-- A watch list entry (Table 6-1); its insertion order is its place in the list. -/
structure WatchEntry where
  drive         : Drive
  track         : Track
  score         : Nat
  queued        : Bool
  unrelocatable : Bool
deriving DecidableEq, Repr

/-- Source of a relocation queue entry (R116). -/
inductive Source where
  | watch | order
deriving DecidableEq, Repr

/-- A relocation queue entry (R116). -/
structure RelocEntry where
  drive  : Drive
  home   : Track
  source : Source
deriving DecidableEq, Repr

/-- Stage of the active relocation (Table 6-4). -/
inductive Stage where
  | readPass | held | commit
deriving DecidableEq, Repr

/-- Round of the active relocation (Table 6-4). -/
inductive Round where
  | first | second
deriving DecidableEq, Repr

/-- Commit revolution (Table 6-4). -/
inductive CommitRev where
  | none | check | write | verify
deriving DecidableEq, Repr

/-- The active relocation record (Table 6-4); `holds` says that it holds its drive (R121, R123, R125). -/
structure Reloc where
  drive     : Drive
  home      : Track
  source    : Track
  respare   : Bool
  alternate : Track
  stage     : Stage
  round     : Round
  rev       : CommitRev
  holds     : Bool
deriving DecidableEq, Repr

/-- State of a track buffer block (R119). -/
inductive BufState where
  | unread | good | failing | damaged
deriving DecidableEq, Repr

/-- A block of the track buffer (R119). -/
structure BufBlock where
  st    : BufState
  bytes : List Byte
deriving DecidableEq, Repr

/-- The track buffer: whether it has an owner, and its 32 blocks (R119). -/
structure Buffer where
  owned  : Bool
  blocks : List BufBlock
deriving DecidableEq, Repr

/-- No owner, all blocks UNREAD (R119); an UNREAD block has no content (log entry 24). -/
def Buffer.free : Buffer := ⟨false, List.replicate 32 ⟨.unread, []⟩⟩

/-! ## Spare map (chapter 2) -/

/-- What a spare map record says of its alternate: MAPPED and PENDING, MAPPED and ACTIVE, or WITHDRAWN
(Table 2-4). -/
inductive MapKind where
  | pending (home : Track)
  | active (home : Track)
  | withdrawn
deriving DecidableEq, Repr

/-- A spare map record (Table 2-4). -/
structure MapRec where
  drive : Drive
  alt   : Track
  kind  : MapKind
deriving DecidableEq, Repr

/-! ## Tables (chapters 2, 8 and 10) -/

/-- A geometry entry (Table 2-1). -/
structure Geometry where
  present   : Bool
  cyls      : Nat
  heads     : Nat
  spares    : Nat
  profile   : Fin 4
  autoSpare : Bool
  scan      : Bool
deriving DecidableEq, Repr

/-- Table 2-1's after-power-on values. -/
def Geometry.initial : Geometry := ⟨false, 64, 1, 2, 0, false, false⟩

/-- A point of a seek profile (R54, R175). -/
structure SeekPoint where
  bound : Nat
  time  : Nat
deriving DecidableEq, Repr

/-- Profile 0 after power-on (R175). -/
def profile0 : List SeekPoint := [⟨1, 4⟩, ⟨8, 6⟩, ⟨32, 9⟩, ⟨96, 13⟩, ⟨256, 18⟩, ⟨1023, 26⟩]

/-- The ladder after power-on (Table 5-4). -/
def ladder0 : List LadderStep :=
  [⟨.none, .normal, 2⟩, ⟨.none, .early, 1⟩, ⟨.none, .late, 1⟩, ⟨.inward, .normal, 1⟩,
   ⟨.outward, .normal, 1⟩, ⟨.none, .normal, 1⟩]

/-- Class of an extent (Table 8-3). -/
inductive ExtentClass where
  | readOnly | fenced
deriving DecidableEq, Repr

/-- An extent entry (Table 8-3). -/
structure Extent where
  inUse : Bool
  drive : Drive
  low   : Nat
  high  : Nat
  cls   : ExtentClass
  group : Nat
deriving DecidableEq, Repr

/-- Table 8-3's after-power-on values. -/
def Extent.initial : Extent := ⟨false, 0, 0, 0, .readOnly, 0⟩

/-- The POLICY entry (Table 10-2). -/
structure Policy where
  watchThreshold : Nat
  agingWeight    : Nat
  margin         : Nat
  stallLimit     : Nat
  yieldThreshold : Nat
  scanIdle       : Nat
  poolLow        : Nat
deriving DecidableEq, Repr

/-- Table 10-2's after-power-on values. -/
def Policy.initial : Policy := ⟨24, 2, 2, 15, 4, 30, 2⟩

/-- A LOAD TABLE whose data arrives (R173): table code, first entry, count, the data bytes so far. -/
structure LoadJob where
  table : Nat
  first : Nat
  count : Nat
  data  : List Byte
deriving DecidableEq, Repr

/-! ## Media scan (chapter 7) -/

/-- Scan phases (Table 7-1). -/
inductive ScanPhase where
  | none | seeking | candidate | pass
deriving DecidableEq, Repr

/-- Scan state of one drive (Table 7-1). -/
structure ScanState where
  idle    : Nat
  phase   : ScanPhase
  results : List ReadOutcome
deriving DecidableEq, Repr

/-- Table 7-1's after-power-on values. -/
def ScanState.initial : ScanState := ⟨0, .none, []⟩

/-! ## Path ports (chapter 9) -/

/-- Link states (R160). -/
inductive Link where
  | free | receiving | connected | sending
deriving DecidableEq, Repr

/-- A tag slot (Table 9-1). An OUTSTANDING slot names the request of its path and tag. -/
inductive TagSlot where
  | free | outstanding | ending
deriving DecidableEq, Repr

/-- Ending frame contents (Table 9-4). -/
structure Ending where
  tag        : Option Tag
  code       : Code
  refusal    : Bool
  reserved   : Bool
  drive      : Option Drive
  blocksDone : Nat
  block      : Option Concerned
  entry      : Option Nat
deriving DecidableEq, Repr

/-- Notice kinds (Table 9-6). -/
inductive NoticeKind where
  | driveFault | driveReady | released | room | spared | spareFailed | watchThreshold | poolLow
deriving DecidableEq, Repr

/-- Causes of SPARE FAILED (Table 6-6). -/
inductive SpareCause where
  | poolExhausted | mapFull | verify
deriving DecidableEq, Repr

/-- Notice details (Table 9-6, Table 6-6). -/
inductive Detail where
  | none
  | fault (cause : FaultCause)
  | offline
  | spared (home alt : Track) (damaged : Nat)
  | spareFailed (cause : SpareCause) (home : Track)
  | watch (track : Track) (score : Nat)
  | pool (free : Nat)
deriving DecidableEq, Repr

/-- A member of a raw notice set (R166). -/
structure Notice where
  kind   : NoticeKind
  drive  : Drive
  detail : Detail
deriving DecidableEq, Repr

/-- Frames the director sends (Table 9-7). -/
inductive Frame where
  | hold (tag : Tag)
  | recall (tag : Tag) (done : Nat) (resume : Bool)
  | data (bytes : List Byte)
  | ending (e : Ending)
  | notice (n : Notice)
deriving DecidableEq, Repr

/-- The last data frame of a READ's block that a path has taken (R78, R170). -/
structure ReadOut where
  path  : Path
  tag   : Tag
  block : Nat
  frame : Frame
deriving DecidableEq, Repr

/-- The path port record (Table 9-1), with the order frame it holds (R162), the frames of the answer going
out, the first of them on the link (R160), and the condition record (R107). -/
structure Port where
  link         : Link
  rx           : Option (List Byte)
  out          : List Frame
  tags         : Four TagSlot
  endings      : List Ending
  raw          : List Notice
  mask         : BitVec 8
  awaitRoom    : PerDrive Bool
  awaitRelease : PerDrive Bool
  condition    : ConditionRecord
deriving DecidableEq, Repr

/-- The power-on mask of a path: kinds 1–4 on A–D, 1–8 on S (Table 9-1). -/
def powerOnMask (p : Path) : BitVec 8 :=
  match p with
  | .s => 0xFF
  | _ => 0x0F

/-- Table 9-1's after-power-on values. -/
def Port.initial (p : Path) : Port where
  link := .free
  rx := Option.none
  out := []
  tags := Four.const .free
  endings := []
  raw := []
  mask := powerOnMask p
  awaitRoom := PerDrive.const false
  awaitRelease := PerDrive.const false
  condition := ⟨Option.none, 0⟩

/-! ## The whole -/

/-- The director. `lastWrite` and `lastRead` are its outputs (log entry 25); `choices` counts the choices made
between a port's own frame and a grant (R160; log entry 12); `pending` the commands that wait (log entry
30). -/
structure State where
  mon       : PerDrive Monitor
  side      : PerDrive DriveSide
  gate      : Option Gate
  lastWrite : Option WriteOut
  lastRead  : Option ReadOut
  queues    : PerDrive (List Request)
  scans     : PerDrive ScanState
  engine    : Engine
  walk      : Option BlockWalk
  trackWalk : Option TrackWalk
  notes     : List Note
  watch     : List WatchEntry
  relocQ    : List RelocEntry
  reloc     : Option Reloc
  buffer    : Buffer
  map       : List MapRec
  geometry  : PerDrive Geometry
  profiles  : Four (List SeekPoint)
  extents   : List Extent
  ladder    : List LadderStep
  policy    : Policy
  load      : Option LoadJob
  groups    : PerPath Nat
  reserved  : PerDrive (Option Nat)
  ports     : PerPath Port
  lastHost  : Path
  choices   : Nat
  pending   : List Instr
deriving DecidableEq, Repr

/-- Why the model would stop. No command raises it: the spec gives every row of the table an effect in
every state. It is here because Host.Core asks for a type. Safe. -/
inductive Fault where
  /-- Raised by no meaning. Safe. -/
  | unused
deriving DecidableEq, Repr

/-- Why a command has no meaning. -/
inductive Refusal where
  /-- Raised by an arm of exec whose command is not modelled yet; no arm is left so. Safe. -/
  | notModelled (mnemonic : String)
deriving DecidableEq, Repr

/-- The director after power-on reset, no command waiting. -/
def State.reset : State where
  mon := PerDrive.const Monitor.initial
  side := PerDrive.const DriveSide.initial
  gate := Option.none
  lastWrite := Option.none
  lastRead := Option.none
  queues := PerDrive.const []
  scans := PerDrive.const ScanState.initial
  engine := Engine.freeWith []
  walk := Option.none
  trackWalk := Option.none
  notes := []
  watch := []
  relocQ := []
  reloc := Option.none
  buffer := Buffer.free
  map := []
  geometry := PerDrive.const Geometry.initial
  profiles := ⟨profile0, [], [], []⟩
  extents := List.replicate 16 Extent.initial
  ladder := ladder0
  policy := Policy.initial
  load := Option.none
  groups := ⟨0, 0, 0, 0, 0⟩
  reserved := PerDrive.const Option.none
  ports := ⟨Port.initial .a, Port.initial .b, Port.initial .c, Port.initial .d, Port.initial .s⟩
  lastHost := .d
  choices := 0
  pending := []

end Sys2Proof.Machine
end

