-- ==== Sys2Proof/Machine/Operands.lean ====
section
/-! DEFINITION. Operand forms: block addresses and spans, the spare map's lookups and the expected marks, read outcomes and correction, and the bytes of frames, of the condition record and of table entries (chapters 2, 5, 9, 10). -/

namespace Sys2Proof.Machine

/-! ## Blocks of a drive (R25, R26) -/

/-- C−S: the first cylinder of the spare area (R25). -/
def Geometry.hostCyls (g : Geometry) : Nat := g.cyls - g.spares

/-- A track of the host range (R25). -/
def Geometry.inHost (g : Geometry) (t : Track) : Bool := decide (t.cyl < g.hostCyls ∧ t.head < g.heads)

/-- A track of the spare area (R25). -/
def Geometry.inSpare (g : Geometry) (t : Track) : Bool :=
  decide (g.hostCyls ≤ t.cyl ∧ t.cyl < g.cyls ∧ t.head < g.heads)

/-- The block number of an address, ((c×H)+h)×32+s: logical order in the host range (R26), and the same
formula over the whole drive for a direct request (R28). -/
def Geometry.blockOf (g : Geometry) (a : Addr) : Nat := (a.cyl * g.heads + a.head) * 32 + a.sec

/-- The address of a block number (R26). -/
def Geometry.addrOf (g : Geometry) (n : Nat) : Addr := ⟨n / 32 / g.heads, n / 32 % g.heads, n % 32⟩

/-- The track of an address. -/
def Addr.track (a : Addr) : Track := ⟨a.cyl, a.head⟩

/-- The address of a sector of a track. -/
def Track.at (t : Track) (sec : Nat) : Addr := ⟨t.cyl, t.head, sec⟩

/-- The request's first block (R26). -/
def Request.first (g : Geometry) (r : Request) : Nat := g.blockOf r.addr

/-- The request's next block: the first block not done (R46). -/
def Request.next (g : Geometry) (r : Request) : Nat := r.first g + r.blocksDone

/-- The request's last block (R26). -/
def Request.last (g : Geometry) (r : Request) : Nat := r.first g + r.count - 1

/-- The data bytes of a block of the request: 512, or the last-block bytes for its last block (R26, R77). -/
def Request.bytesOf (g : Geometry) (r : Request) (n : Nat) : Nat :=
  if n = r.last g then r.lastBytes else Config.blockBytes

/-- READ, WRITE or VERIFY: an order whose service moves blocks. -/
def QOrder.transfers : QOrder → Bool
  | .read => true
  | .write => true
  | .verify => true
  | _ => false

/-! ## Spare map lookups (R33, R40, R41) -/

/-- The home of an ACTIVE record. -/
def MapRec.activeHome (r : MapRec) : Option Track :=
  match r.kind with
  | .active h => some h
  | _ => none

/-- The home of a PENDING record. -/
def MapRec.pendingHome (r : MapRec) : Option Track :=
  match r.kind with
  | .pending h => some h
  | _ => none

/-- The record of the drive that names this alternate, if any (R34: at most one). -/
def mapNaming (map : List MapRec) (d : Drive) (t : Track) : Option MapRec :=
  map.find? fun r => r.drive = d ∧ r.alt = t

/-- The alternate of the ACTIVE record that names this home, if any (R41). -/
def activeAlternate (map : List MapRec) (d : Drive) (home : Track) : Option Track :=
  (map.find? fun r => r.drive = d ∧ r.activeHome = some home).map (·.alt)

/-- Translation of a logical track (R41). -/
def translate (map : List MapRec) (d : Drive) (t : Track) : Track :=
  match activeAlternate map d t with
  | some alt => alt
  | none => t

/-- The states of an alternate in the pool view (R40). -/
inductive PoolState where
  | free | inUse | withdrawn
deriving DecidableEq, Repr

/-- The pool view's state of an alternate (R40). -/
def poolState (map : List MapRec) (d : Drive) (t : Track) : PoolState :=
  match mapNaming map d t with
  | none => .free
  | some r => if r.kind = .withdrawn then .withdrawn else .inUse

/-- The alternate tracks of a drive, by cylinder and then head (R25). -/
def Geometry.alternates (g : Geometry) : List Track :=
  (List.range g.spares).flatMap fun i => (List.range g.heads).map fun h => ⟨g.hostCyls + i, h⟩

/-- The lowest FREE alternate (R40). -/
def lowestFree (map : List MapRec) (g : Geometry) (d : Drive) : Option Track :=
  g.alternates.find? fun t => poolState map d t = .free

/-- The FREE count; 0 for a drive that is not present (R40). -/
def freeCount (map : List MapRec) (g : Geometry) (d : Drive) : Nat :=
  if g.present then (g.alternates.filter fun t => poolState map d t = .free).length else 0

/-- The physical address of a block of a request: translated, or as named for a direct request (R28, R41). -/
def physOf (map : List MapRec) (g : Geometry) (d : Drive) (direct : Bool) (n : Nat) : Addr :=
  let a := g.addrOf n
  if direct then a else (translate map d a.track).at a.sec

/-- A block as an ending or a note names it (R107): a direct request has no logical block. -/
def concernedOf (map : List MapRec) (g : Geometry) (d : Drive) (direct : Bool) (n : Nat) : Concerned :=
  let ph := physOf map g d direct n
  ⟨if direct then none else some (g.addrOf n), ph, g.inSpare ph.track⟩

/-! ## Marks (R29–R31) -/

/-- The expectation of a physical track's marks (Table 2-3). -/
inductive Expect where
  | definite (cyl head : Nat) (alt : Bool)
  | opened
deriving DecidableEq, Repr

/-- Table 2-3; `verify` says the track is read in the verify revolution of its COMMIT. -/
def expectation (map : List MapRec) (g : Geometry) (d : Drive) (t : Track) (verify : Bool) : Expect :=
  if t.cyl < g.hostCyls then .definite t.cyl t.head false
  else
    match mapNaming map d t with
    | some r =>
      match r.kind with
      | .active h => .definite h.cyl h.head true
      | .pending h => if verify then .definite h.cyl h.head true else .opened
      | .withdrawn => .opened
    | none => .opened

/-- The mark of sector `ph.sec` of the physical track `ph` meets its expectation (R30). -/
def meets (e : Expect) (ph : Addr) (m : Mark) : Bool :=
  match e with
  | .definite c h f =>
    decide (m.cyl.toNat = c ∧ m.head.toNat = h ∧ m.sec.toNat = ph.sec ∧ m.alt = f)
  | .opened =>
    decide (m.sec.toNat = ph.sec) &&
      (m.alt || decide (m.cyl.toNat = ph.cyl ∧ m.head.toNat = ph.head))

/-- The drive monitor's cylinder check of the first mark after a seek (R14, R31). -/
def cylinderMatches (e : Expect) (ph : Addr) (m : Mark) : Bool :=
  match e with
  | .definite c _ _ => decide (m.cyl.toNat = c)
  | .opened => m.alt || decide (m.cyl.toNat = ph.cyl)

/-- The mark that a COMMIT writes for a sector (R29, R126). -/
def homeMark (home : Track) (sec : Nat) : Mark :=
  ⟨BitVec.ofNat 10 home.cyl, BitVec.ofNat 4 home.head, BitVec.ofNat 5 sec, true⟩

/-! ## Read outcomes and correction (R91–R93) -/

/-- The read outcome, judged in the order of R91. -/
def outcomeOf (met : Bool) (c : Check) : ReadOutcome :=
  if met then
    match c with
    | .damageTag => .damaged
    | .clean => .clean
    | .burst _ _ => .correctable
    | .uncorrectable _ => .uncorrectable
  else .mismatch

/-- The burst length reported with the outcome (Table 5-1 of chapter 5). -/
def burstOf (met : Bool) (c : Check) : Nat :=
  if met then
    match c with
    | .burst _ len => len
    | .uncorrectable len => len
    | _ => 0
  else 0

/-- Exactly 512 bytes: what is short is made up with zeros, what is over is left (log entry 8). -/
def block512 (bs : List Byte) : List Byte := (bs ++ List.replicate Config.blockBytes 0).take Config.blockBytes

/-- The mask of the bits of byte `i` that lie in the burst; bit 0 of the block is the most significant bit of
byte 0 (log entry 9). -/
def burstMask (start len i : Nat) : Byte :=
  (List.range 8).foldl
    (fun m k => if start ≤ 8 * i + k ∧ 8 * i + k < start + len then m ||| (0x80 : Byte) >>> k else m) 0

/-- The bytes from byte `i` on with the bits of the burst inverted (R93). -/
def invertFrom (start len : Nat) : Nat → List Byte → List Byte
  | _, [] => []
  | i, b :: bs => (b ^^^ burstMask start len i) :: invertFrom start len (i + 1) bs

/-- The block a read gives: corrected when its burst is located, as read otherwise (R93). -/
def readBytes (y : Yield) : List Byte :=
  match y.check with
  | .burst start len => invertFrom start len 0 (block512 y.data)
  | _ => block512 y.data

/-- Fit to be used: CLEAN or CORRECTABLE. -/
def ReadOutcome.fit : ReadOutcome → Bool
  | .clean => true
  | .correctable => true
  | _ => false

/-! ## Order frames (R170, Table 9-8) -/

/-- A byte of a frame as a number; 0 past its end. -/
def byteAt (f : List Byte) (i : Nat) : Nat := (f.getD i 0).toNat

/-- A two-byte field, the high byte first (R170). -/
def wordAt (f : List Byte) (i : Nat) : Nat := 256 * byteAt f i + byteAt f (i + 1)

/-- Bits 1–0 of byte 2. -/
def frameTag (f : List Byte) : Tag := ⟨byteAt f 2 % 4, Nat.mod_lt _ (by decide)⟩

/-- Bit 4 of byte 2. -/
def frameDirect (f : List Byte) : Bool := (f.getD 2 0).getLsbD 4

/-- Bit 5 of byte 2. -/
def frameReserve (f : List Byte) : Bool := (f.getD 2 0).getLsbD 5

/-- Byte 2's "other bits 0". -/
def frameFlagsClear (f : List Byte) : Bool := f.getD 2 0 &&& 0xCC == 0

/-- Byte 3 as a drive position, if the frame has that byte and it is one (log entry 11). -/
def frameDrive (f : List Byte) : Option Drive :=
  if 3 < f.length then
    if h : byteAt f 3 < 8 then some ⟨byteAt f 3, h⟩ else none
  else none

/-- Bytes 4–7: cylinder, head, sector. -/
def frameAddr (f : List Byte) : Addr := ⟨wordAt f 4, byteAt f 6, byteAt f 7⟩

/-- Bytes 8–9: block count. -/
def frameCount (f : List Byte) : Nat := wordAt f 8

/-- Bytes 10–11: last-block bytes. -/
def frameLast (f : List Byte) : Nat := wordAt f 10

/-- The frame has the layout's length and type (Table 9-7). -/
def frameShape (f : List Byte) : Bool := f.length == 16 && f.getD 0 0 == 0x01

/-- Which row of the table the decoder's turn on an order frame is. A FETCH TABLE frame whose table code is
outside 1–8 is refused BAD ORDER like an unknown code and is counted there (log entry 11). -/
inductive OrderRow where
  | queued (o : QOrder)
  | setGroup | setNotices | clearNotices | reportCondition
  | fetch (table : Nat)
  | resetPath | loadTable | assignAlternate | forceRelease | directorReset
  | unknown
deriving DecidableEq, Repr

/-- Order codes (Table 9-12). -/
def rowOf (f : List Byte) : OrderRow :=
  match byteAt f 1 with
  | 0x01 => .queued .read
  | 0x02 => .queued .write
  | 0x03 => .queued .verify
  | 0x04 => .queued .position
  | 0x05 => .queued .reserve
  | 0x06 => .queued .release
  | 0x07 => .queued .recalibrate
  | 0x10 => .setGroup
  | 0x11 => .setNotices
  | 0x12 => .clearNotices
  | 0x13 => .reportCondition
  | 0x14 => if 1 ≤ byteAt f 12 ∧ byteAt f 12 ≤ 8 then .fetch (byteAt f 12) else .unknown
  | 0x15 => .resetPath
  | 0x16 => .loadTable
  | 0x17 => .assignAlternate
  | 0x18 => .forceRelease
  | 0x19 => .directorReset
  | _ => .unknown

/-! ## Director frames (Tables 9-7, 9-9, 9-10, 9-13) -/

/-- A number as one byte. -/
def u8 (n : Nat) : Byte := BitVec.ofNat 8 n

/-- A number as two bytes, the high byte first (R170). -/
def u16 (n : Nat) : List Byte := [u8 (n / 256), u8 n]

/-- A flag as a bit of a byte. -/
def flag (b : Bool) (bit : Nat) : Nat := if b then 2 ^ bit else 0

/-- Table 9-13. -/
def Code.value : Code → Byte
  | .normal => 0x00
  | .corrected => 0x01
  | .recovered => 0x02
  | .dataCheck => 0x10
  | .damaged => 0x11
  | .writeFault => 0x12
  | .seekFault => 0x13
  | .driveLost => 0x14
  | .stalled => 0x15
  | .abandoned => 0x16
  | .fenced => 0x20
  | .readOnly => 0x21
  | .reservedElsewhere => 0x22
  | .badOrder => 0x30
  | .notPermitted => 0x31
  | .tagInUse => 0x32
  | .noDrive => 0x33
  | .notReady => 0x34
  | .outsideVolume => 0x35
  | .queueFull => 0x36
  | .noGroup => 0x37
  | .busy => 0x38
  | .tableInvalid => 0x39

/-- The rank and number 1–8 of a notice kind (Table 9-6). -/
def NoticeKind.number : NoticeKind → Nat
  | .driveFault => 1
  | .driveReady => 2
  | .released => 3
  | .room => 4
  | .spared => 5
  | .spareFailed => 6
  | .watchThreshold => 7
  | .poolLow => 8

/-- The mask or a CLEAR NOTICES kinds byte names this kind: bit 0 stands for kind 1 (R170). -/
def NoticeKind.inMask (k : NoticeKind) (m : BitVec 8) : Bool := m.getLsbD (k.number - 1)

/-- Fault cause values (Table 9-10, Table 10-4). -/
def FaultCause.value : FaultCause → Nat
  | .none => 0
  | .speed => 1
  | .clock => 2
  | .seek => 3
  | .write => 4
  | .line => 5

/-- Values of the causes of SPARE FAILED (Table 9-10). -/
def SpareCause.value : SpareCause → Nat
  | .poolExhausted => 1
  | .mapFull => 2
  | .verify => 3

/-- The seven detail bytes (Table 9-10). -/
def Detail.bytes : Detail → List Byte
  | .none => [0, 0, 0, 0, 0, 0, 0]
  | .fault c => [u8 c.value, 0, 0, 0, 0, 0, 0]
  | .offline => [6, 0, 0, 0, 0, 0, 0]
  | .spared h a n => u16 h.cyl ++ [u8 h.head] ++ u16 a.cyl ++ [u8 a.head] ++ [u8 n]
  | .spareFailed c h => [u8 c.value] ++ u16 h.cyl ++ [u8 h.head, 0, 0, 0]
  | .watch t n => u16 t.cyl ++ [u8 t.head, u8 n, 0, 0, 0]
  | .pool n => u16 n ++ [0, 0, 0, 0, 0]

/-- An address as four bytes. -/
def Addr.bytes (a : Addr) : List Byte := u16 a.cyl ++ [u8 a.head, u8 a.sec]

/-- The address an ending frame carries: logical, or physical for a direct request (Table 9-4). -/
def Concerned.named (c : Concerned) : Addr :=
  match c.logical with
  | some a => a
  | none => c.phys

/-- A byte, or FFH for none. -/
def orFF (x : Option Nat) : Byte :=
  match x with
  | some n => u8 n
  | none => 0xFF

/-- The bytes of an optional address. An absent one is sent as four zeros, in an ending frame and in a HELD condition
record: the manual gives only the bit that says it is absent (DESIGN CHOICE; log entry 36). -/
def optAddrBytes (x : Option Addr) : List Byte :=
  match x with
  | some a => a.bytes
  | none => [0, 0, 0, 0]

/-- The twelve bytes of an ending frame (Table 9-9). Bits 3–7 of the flags byte, to which the table gives no value, are
sent as 0 (DESIGN CHOICE; log entry 56). -/
def Ending.bytes (e : Ending) : List Byte :=
  [0x83, orFF (e.tag.map (·.val)), e.code.value,
    u8 (flag e.refusal 0 + flag e.reserved 1 + flag e.block.isSome 2), orFF (e.drive.map (·.val))] ++
  u16 e.blocksDone ++ optAddrBytes (e.block.map (·.named)) ++ [orFF e.entry]

/-- The bytes of a frame the director sends (Table 9-9). Bits 1–7 of a recall's flags byte, to which the table gives no
value, are sent as 0 (DESIGN CHOICE; log entry 56). -/
def Frame.bytes : Frame → List Byte
  | .hold t => [0x81, u8 t.val]
  | .recall t n r => [0x82, u8 t.val] ++ u16 n ++ [u8 (flag r 0)]
  | .data bs => 0x03 :: bs
  | .ending e => e.bytes
  | .notice n => [0x84, u8 n.kind.number, u8 n.drive.val] ++ n.detail.bytes

/-- The alternate bit of byte 4 of the condition record: meaningful only with a physical block, and sent as 0 without one,
of which Table 9-11 gives no value (DESIGN CHOICE; log entry 56). -/
def altBit (x : Option Concerned) : Nat :=
  match x with
  | some c => flag c.alt 2
  | none => 0

/-- The condition record's twenty bytes (Table 9-11). Bits 3–7 of byte 4 of a HELD record, to which the table gives no
value, are sent as 0 (DESIGN CHOICE; log entry 56). -/
def ConditionRecord.bytes (r : ConditionRecord) : List Byte :=
  match r.held with
  | none => List.replicate 20 0
  | some c =>
    [1, orFF (c.tag.map (·.val)), c.code.value, orFF (c.drive.map (·.val)),
      u8 (flag (c.block.bind (·.logical)).isSome 0 + flag c.block.isSome 1 + altBit c.block)] ++
    optAddrBytes (c.block.bind (·.logical)) ++ optAddrBytes (c.block.map (·.phys)) ++
    [u8 c.lastStep, u8 c.burst, u8 r.further, 0, 0, 0, 0]

/-- Table data as data frames of at most 512 bytes; where one ends carries no meaning (R170). -/
def dataFrames (bs : List Byte) : List Frame :=
  (List.range ((bs.length + 511) / 512)).map fun i => .data ((bs.drop (512 * i)).take 512)

/-! ## Table entries (Table 10-4) -/

/-- A GEOMETRY entry's eight bytes. Bits 2–7 of its flags, to which Table 10-4 gives no value, are sent as 0 (DESIGN
CHOICE; log entry 56). -/
def Geometry.bytes (g : Geometry) : List Byte :=
  [u8 (flag g.present 0)] ++ u16 g.cyls ++
    [u8 g.heads, u8 g.spares, u8 g.profile.val, u8 (flag g.autoSpare 0 + flag g.scan 1), 0]

/-- A GEOMETRY entry read from its bytes, none when an item is out of its range or S is odd (R174). -/
def geometryOf (b : List Byte) : Option Geometry :=
  if h : byteAt b 5 < 4 then
    if byteAt b 0 ≤ 1 ∧ 64 ≤ wordAt b 1 ∧ wordAt b 1 ≤ 1024 ∧ 1 ≤ byteAt b 3 ∧ byteAt b 3 ≤ 16 ∧
        2 ≤ byteAt b 4 ∧ byteAt b 4 ≤ 16 ∧ byteAt b 4 % 2 = 0 then
      some ⟨byteAt b 0 == 1, wordAt b 1, byteAt b 3, byteAt b 4, ⟨byteAt b 5, h⟩,
        (b.getD 6 0).getLsbD 0, (b.getD 6 0).getLsbD 1⟩
    else none
  else none

/-- Three bytes of a profile point. -/
def SeekPoint.bytes (p : SeekPoint) : List Byte := u16 p.bound ++ [u8 p.time]

/-- A PROFILE entry's 25 bytes; points beyond k are 0 (R175). -/
def profileBytes (p : List SeekPoint) : List Byte :=
  (u8 p.length :: p.flatMap SeekPoint.bytes ++ List.replicate 25 0).take 25

/-- Bounds rise strictly, times do not fall, all in range (R175). -/
def profileOk : List SeekPoint → Bool
  | [] => true
  | [p] => decide (1 ≤ p.bound ∧ p.bound ≤ 1023 ∧ 1 ≤ p.time ∧ p.time ≤ 150)
  | p :: q :: rest =>
    decide (1 ≤ p.bound ∧ p.bound ≤ 1023 ∧ 1 ≤ p.time ∧ p.time ≤ 150 ∧ p.bound < q.bound ∧ p.time ≤ q.time) &&
      profileOk (q :: rest)

/-- A PROFILE entry read from its bytes (R175). -/
def profileOf (b : List Byte) : Option (List SeekPoint) :=
  let ps := (List.range (byteAt b 0)).map fun i => (⟨wordAt b (1 + 3 * i), byteAt b (3 + 3 * i)⟩ : SeekPoint)
  if byteAt b 0 ≤ 8 ∧ profileOk ps then some ps else none

/-- A SPARE MAP record's seven bytes. -/
def MapRec.bytes (r : MapRec) : List Byte :=
  match r.kind with
  | .active h => 1 :: u16 h.cyl ++ [u8 h.head] ++ u16 r.alt.cyl ++ [u8 r.alt.head]
  | .withdrawn => [2, 0, 0, 0] ++ u16 r.alt.cyl ++ [u8 r.alt.head]
  | .pending h => 3 :: u16 h.cyl ++ [u8 h.head] ++ u16 r.alt.cyl ++ [u8 r.alt.head]

/-- A SPARE MAP record read from its bytes; a record coded PENDING is invalid (R176). -/
def mapRecOf (d : Drive) (b : List Byte) : Option MapRec :=
  match byteAt b 0 with
  | 1 => some ⟨d, ⟨wordAt b 4, byteAt b 6⟩, .active ⟨wordAt b 1, byteAt b 3⟩⟩
  | 2 => some ⟨d, ⟨wordAt b 4, byteAt b 6⟩, .withdrawn⟩
  | _ => none

/-- The record's place in the map: (alternate cylinder, alternate head) within a drive (R33). -/
def Track.before (a b : Track) : Bool := decide (a.cyl < b.cyl ∨ (a.cyl = b.cyl ∧ a.head < b.head))

/-- An EXTENTS entry's eight bytes. -/
def Extent.bytes (e : Extent) : List Byte :=
  [u8 (flag e.inUse 0), u8 e.drive.val] ++ u16 e.low ++ u16 e.high ++
    [match e.cls with | .readOnly => 0 | .fenced => 1, u8 e.group]

/-- An EXTENTS entry read from its bytes, none when an item is out of range, an entry in use has its high
cylinder below its low one, or a FENCED entry has group 0 (R156, R177). -/
def extentOf (b : List Byte) : Option Extent :=
  if h : byteAt b 1 < 8 then
    if byteAt b 0 ≤ 1 ∧ wordAt b 2 ≤ 1023 ∧ wordAt b 4 ≤ 1023 ∧ byteAt b 6 ≤ 1 ∧ byteAt b 7 ≤ 15 ∧
        (byteAt b 0 = 1 → wordAt b 2 ≤ wordAt b 4) ∧
        (byteAt b 6 = 1 → 1 ≤ byteAt b 7) then
      some ⟨byteAt b 0 == 1, ⟨byteAt b 1, h⟩, wordAt b 2, wordAt b 4,
        if byteAt b 6 = 1 then .fenced else .readOnly, byteAt b 7⟩
    else none
  else none

/-- A LADDER step's three bytes. -/
def LadderStep.bytes (x : LadderStep) : List Byte :=
  [match x.offset with | .none => 0 | .inward => 1 | .outward => 2,
   match x.strobe with | .normal => 0 | .early => 1 | .late => 2,
   u8 x.rereads]

/-- A head offset from its byte (Table 10-4). -/
def offsetOf : Nat → Option Offset
  | 0 => some .none
  | 1 => some .inward
  | 2 => some .outward
  | _ => none

/-- A strobe from its byte (Table 10-4). -/
def strobeOf : Nat → Option Strobe
  | 0 => some .normal
  | 1 => some .early
  | 2 => some .late
  | _ => none

/-- A LADDER step read from its bytes (Table 5-3). -/
def ladderStepOf (b : List Byte) : Option LadderStep :=
  match offsetOf (byteAt b 0), strobeOf (byteAt b 1) with
  | some o, some t => if 1 ≤ byteAt b 2 ∧ byteAt b 2 ≤ 4 then some ⟨o, t, byteAt b 2⟩ else none
  | _, _ => none

/-- The POLICY entry's eight bytes. -/
def Policy.bytes (p : Policy) : List Byte :=
  [u8 p.watchThreshold, u8 p.agingWeight, u8 p.margin, u8 p.stallLimit, u8 p.yieldThreshold, u8 p.scanIdle,
    u8 p.poolLow, 0]

/-- The POLICY entry read from its bytes (Table 10-2). -/
def policyOf (b : List Byte) : Option Policy :=
  if 4 ≤ byteAt b 0 ∧ byteAt b 1 ≤ 8 ∧ 1 ≤ byteAt b 2 ∧ byteAt b 2 ≤ 3 ∧ 4 ≤ byteAt b 3 ∧ byteAt b 3 ≤ 31 ∧
      1 ≤ byteAt b 4 ∧ byteAt b 4 ≤ 15 ∧ 1 ≤ byteAt b 5 then
    some ⟨byteAt b 0, byteAt b 1, byteAt b 2, byteAt b 3, byteAt b 4, byteAt b 5, byteAt b 6⟩
  else none

/-- A WATCH place's eight bytes (Table 10-4); `i` is the place, the insertion order is one more. A place past the last
entry is eight zeros: R172 and Table 10-4 give its present byte only (DESIGN CHOICE; log entry 53). Bits 2–7 of an
entry's flags, to which Table 10-4 gives no value, are sent as 0 (DESIGN CHOICE; log entry 56). -/
def watchBytes (i : Nat) (e : Option WatchEntry) : List Byte :=
  match e with
  | none => List.replicate 8 0
  | some e =>
    [1, u8 e.drive.val] ++ u16 e.track.cyl ++
      [u8 e.track.head, u8 e.score, u8 (i + 1), u8 (flag e.queued 0 + flag e.unrelocatable 1)]

/-- Drive states in the order of Table 1-3, 0 to 8 (Table 10-4). -/
def DriveState.value : DriveState → Nat
  | .absent => 0
  | .offline => 1
  | .spinCheck => 2
  | .ready => 3
  | .seeking => 4
  | .orienting => 5
  | .transferring => 6
  | .recalibrating => 7
  | .faulted => 8

/-- Entry `i` of data whose entries have `n` bytes each. -/
def entryAt (data : List Byte) (n i : Nat) : List Byte := (data.drop (n * i)).take n

end Sys2Proof.Machine
end

