-- ==== Sys2Proof/Machine/Ops.lean ====
section
/-! DEFINITION. The named reads and writes of State, and the string port's commands (Table 1-1) on them. Every other operation of the model is made of these. -/

namespace Sys2Proof.Machine

/-! ## Reads and writes of State -/

/-- The drive monitor record of a drive. -/
def State.monOf (s : State) (d : Drive) : Monitor := s.mon.get d

/-- The state with the drive monitor record of a drive replaced. -/
def State.setMon (s : State) (d : Drive) (x : Monitor) : State := { s with mon := s.mon.set d x }

/-- The string-port side of a drive. -/
def State.sideOf (s : State) (d : Drive) : DriveSide := s.side.get d

/-- The state with the string-port side of a drive replaced. -/
def State.setSide (s : State) (d : Drive) (x : DriveSide) : State := { s with side := s.side.set d x }

/-- The queue of a drive. -/
def State.queue (s : State) (d : Drive) : List Request := s.queues.get d

/-- The state with the queue of a drive replaced. -/
def State.setQueue (s : State) (d : Drive) (x : List Request) : State := { s with queues := s.queues.set d x }

/-- The scan state of a drive. -/
def State.scanOf (s : State) (d : Drive) : ScanState := s.scans.get d

/-- The state with the scan state of a drive replaced. -/
def State.setScan (s : State) (d : Drive) (x : ScanState) : State := { s with scans := s.scans.set d x }

/-- The geometry entry of a drive. -/
def State.geom (s : State) (d : Drive) : Geometry := s.geometry.get d

/-- The state with the geometry entry of a drive replaced. -/
def State.setGeom (s : State) (d : Drive) (x : Geometry) : State := { s with geometry := s.geometry.set d x }

/-- The reservation of a drive. -/
def State.reservedBy (s : State) (d : Drive) : Option Nat := s.reserved.get d

/-- The state with the reservation of a drive replaced. -/
def State.setReserved (s : State) (d : Drive) (x : Option Nat) : State := { s with reserved := s.reserved.set d x }

/-- The group number of a path. -/
def State.group (s : State) (p : Path) : Nat := s.groups.get p

/-- The state with the group number of a path replaced. -/
def State.setGroup (s : State) (p : Path) (x : Nat) : State := { s with groups := s.groups.set p x }

/-- The path port of a path. -/
def State.port (s : State) (p : Path) : Port := s.ports.get p

/-- The state with the path port of a path replaced. -/
def State.setPort (s : State) (p : Path) (x : Port) : State := { s with ports := s.ports.set p x }

/-- The state with `gate` replaced. -/
def State.setGate (s : State) (x : Option Gate) : State := { s with gate := x }

/-- The state with `lastWrite` replaced. -/
def State.setLastWrite (s : State) (x : Option WriteOut) : State := { s with lastWrite := x }

/-- The state with `lastRead` replaced. -/
def State.setLastRead (s : State) (x : Option ReadOut) : State := { s with lastRead := x }

/-- The state with `engine` replaced. -/
def State.setEngine (s : State) (x : Engine) : State := { s with engine := x }

/-- The state with `walk` replaced. -/
def State.setWalk (s : State) (x : Option BlockWalk) : State := { s with walk := x }

/-- The state with `trackWalk` replaced. -/
def State.setTrackWalk (s : State) (x : Option TrackWalk) : State := { s with trackWalk := x }

/-- The state with `notes` replaced. -/
def State.setNotes (s : State) (x : List Note) : State := { s with notes := x }

/-- The state with `watch` replaced. -/
def State.setWatch (s : State) (x : List WatchEntry) : State := { s with watch := x }

/-- The state with `relocQ` replaced. -/
def State.setRelocQ (s : State) (x : List RelocEntry) : State := { s with relocQ := x }

/-- The state with `reloc` replaced. -/
def State.setReloc (s : State) (x : Option Reloc) : State := { s with reloc := x }

/-- The state with `buffer` replaced. -/
def State.setBuffer (s : State) (x : Buffer) : State := { s with buffer := x }

/-- The state with `map` replaced. -/
def State.setMap (s : State) (x : List MapRec) : State := { s with map := x }

/-- The state with `profiles` replaced. -/
def State.setProfiles (s : State) (x : Four (List SeekPoint)) : State := { s with profiles := x }

/-- The state with `extents` replaced. -/
def State.setExtents (s : State) (x : List Extent) : State := { s with extents := x }

/-- The state with `ladder` replaced. -/
def State.setLadder (s : State) (x : List LadderStep) : State := { s with ladder := x }

/-- The state with `policy` replaced. -/
def State.setPolicy (s : State) (x : Policy) : State := { s with policy := x }

/-- The state with `load` replaced. -/
def State.setLoad (s : State) (x : Option LoadJob) : State := { s with load := x }

/-- The state with `lastHost` replaced. -/
def State.setLastHost (s : State) (x : Path) : State := { s with lastHost := x }

/-- The state with `choices` replaced. -/
def State.setChoices (s : State) (x : Nat) : State := { s with choices := x }

/-- The state with `pending` replaced. -/
def State.setPending (s : State) (x : List Instr) : State := { s with pending := x }

/-! ## The string port's commands (R1, Table 1-1) -/

/-- Seek: the actuator is on its way to a cylinder. -/
def State.cmdSeek (s : State) (d : Drive) (cyl : Nat) : State :=
  s.setSide d { s.sideOf d with motion := .seek cyl }

/-- Recalibrate: the actuator is on its way to cylinder 0. -/
def State.cmdRecalibrate (s : State) (d : Drive) : State :=
  s.setSide d { s.sideOf d with motion := .recalibrate }

/-- Head select; the drive monitor's head is the head last selected (Table 1-3). -/
def State.cmdHead (s : State) (d : Drive) (h : Nat) : State :=
  (s.setSide d { s.sideOf d with head := h }).setMon d { s.monOf d with head := h }

/-- Offset select and strobe select. -/
def State.cmdSettings (s : State) (d : Drive) (o : Offset) (t : Strobe) : State :=
  s.setSide d { s.sideOf d with offset := o, strobe := t }

/-- Offset NONE and strobe NORMAL. -/
def State.cmdCentre (s : State) (d : Drive) : State := s.cmdSettings d .none .normal

/-- Fault clear, with the centre settings of R2: the fault line drops if the condition that raised it has
gone. -/
def State.cmdFaultClear (s : State) (d : Drive) (gone : Bool) : State :=
  (s.setSide d { s.sideOf d with faultLine := (s.sideOf d).faultLine && !gone }).cmdCentre d

/-- Raise a gate on a drive; one gate at a time (R2). -/
def State.raiseGate (s : State) (d : Drive) (k : GateKind) : State := s.setGate (some ⟨d, k⟩)

/-- Drop the gate if it is raised on this drive (R2). -/
def State.dropGate (s : State) (d : Drive) : State :=
  match s.gate with
  | some g => if g.drive = d then s.setGate none else s
  | none => s

/-- The write gate is raised on this drive. -/
def State.writeGateOn (s : State) (d : Drive) : Bool := s.gate == some ⟨d, .write⟩

/-! ## Drive monitor states -/

/-- Set a drive monitor's state. -/
def State.setDriveState (s : State) (d : Drive) (st : DriveState) : State :=
  s.setMon d { s.monOf d with state := st }

/-- Online state: any state other than ABSENT and OFFLINE (Table 1-5). -/
def DriveState.online : DriveState → Bool
  | .absent => false
  | .offline => false
  | _ => true

/-- The drive enters READY; the monitor sets offset NONE and strobe NORMAL (R2). -/
def State.enterReady (s : State) (d : Drive) : State := (s.setDriveState d .ready).cmdCentre d

/-- Set a drive's mark check. -/
def State.setMarkCheck (s : State) (d : Drive) (c : MarkCheck) : State :=
  s.setMon d { s.monOf d with markCheck := c }

/-- The monitor issues recalibrate, sets the seek timer to 0 and the mark check as given, and the drive
enters RECALIBRATING for a purpose (R8, R14, R15, R17, R18). -/
def State.startRecal (s : State) (d : Drive) (why : Recal) (c : MarkCheck) : State :=
  (s.cmdRecalibrate d).setMon d
    { s.monOf d with state := .recalibrating, seekTimer := 0, markCheck := c, recal := why }

/-- The seek of R12, asked of a drive monitor: head select, then ORIENTING at once when the drive is on the
cylinder, else a seek and SEEKING. -/
def State.askSeek (s : State) (d : Drive) (t : Track) : State :=
  let s1 := s.cmdHead d t.head
  if t.cyl = (s1.monOf d).cylinder then s1.setDriveState d .orienting
  else
    (s1.cmdSeek d t.cyl).setMon d
      { s1.monOf d with
        state := .seeking, target := t.cyl, cylinder := t.cyl, seekTimer := 0, markCheck := .pending }

/-- A drive's idle count becomes 0 (R135). -/
def State.clearIdle (s : State) (d : Drive) : State :=
  s.setScan d { s.scanOf d with idle := 0 }

/-! ## Path ports -/

/-- The port begins these frames, the first of them at once: the link is SENDING (R160). -/
def State.send (s : State) (p : Path) (fs : List Frame) : State :=
  s.setPort p { s.port p with link := .sending, out := fs, rx := none }

/-- The link becomes FREE, with nothing going out (R160). -/
def State.freeLink (s : State) (p : Path) : State :=
  s.setPort p { s.port p with link := .free, out := [] }

/-- Set a tag slot of a path (Table 9-1). -/
def State.setTag (s : State) (p : Path) (t : Tag) (x : TagSlot) : State :=
  s.setPort p { s.port p with tags := (s.port p).tags.set t x }

/-! ## Notes of recovery control (R94) -/

/-- The note of a request, if it has one. -/
def State.note? (s : State) (p : Path) (t : Tag) : Option Note :=
  s.notes.find? fun n => n.path = p ∧ n.tag = t

/-- The request's note, created with last step used 0 and burst length 0 if it has none, then changed. -/
def State.updNote (s : State) (p : Path) (t : Tag) (f : Note → Note) : State :=
  if s.notes.any (fun n => n.path = p ∧ n.tag = t) then
    s.setNotes (s.notes.map fun n => if n.path = p ∧ n.tag = t then f n else n)
  else s.setNotes (s.notes ++ [f ⟨p, t, 0, 0, none⟩])

/-- The request's note is removed. -/
def State.dropNote (s : State) (p : Path) (t : Tag) : State :=
  s.setNotes (s.notes.filter fun n => ¬(n.path = p ∧ n.tag = t))

end Sys2Proof.Machine
end

