-- ==== Sys2Proof/Machine/Flags.lean ====
section
/-! DEFINITION. Status and notice flags: raw notice sets, awaiting marks, the condition record, idle and free drives, group standing (chapters 3, 5, 7, 8, 9). -/

namespace Sys2Proof.Machine

/-! ## Notices (R166) -/

/-- Two notices of the same (kind, drive). -/
def Notice.sameKey (a b : Notice) : Bool := decide (a.kind = b.kind ∧ a.drive = b.drive)

/-- A raise meets a raw set: the member of its (kind, drive) takes the new detail, or a member is made. -/
def addNotice (raw : List Notice) (n : Notice) : List Notice :=
  if raw.any (·.sameKey n) then raw.map fun m => if m.sameKey n then n else m else raw ++ [n]

/-- A notice enters one path's raw set. -/
def State.raise (s : State) (n : Notice) (p : Path) : State :=
  s.setPort p { s.port p with raw := addNotice (s.port p).raw n }

/-- A notice enters the raw sets of all five paths. -/
def State.raiseAll (s : State) (n : Notice) : State := allPaths.foldl (fun s p => s.raise n p) s

/-! ## Awaiting-room marks and ROOM (R48, R49) -/

/-- The path is marked awaiting room for the drive. -/
def State.markRoom (s : State) (p : Path) (d : Drive) : State :=
  s.setPort p { s.port p with awaitRoom := (s.port p).awaitRoom.set d true }

/-- A marked path loses its mark and gets ROOM. -/
def State.giveRoom (s : State) (d : Drive) (p : Path) : State :=
  if (s.port p).awaitRoom.get d then
    (s.setPort p { s.port p with awaitRoom := (s.port p).awaitRoom.set d false }).raise ⟨.room, d, .none⟩ p
  else s

/-- A drive queue loses entries: ROOM follows if it held 8 (R49). -/
def State.loseEntries (s : State) (d : Drive) (q : List Request) : State :=
  if (s.queue d).length = Config.queueCapacity ∧ q.length < Config.queueCapacity then
    allPaths.foldl (fun s p => s.giveRoom d p) (s.setQueue d q)
  else s.setQueue d q

/-! ## Groups, reservations, awaiting-release marks (R146, R147) -/

/-- The path is outside group `g`: S, a path with number 0, or a path of another group (R146). -/
def State.outside (s : State) (p : Path) (g : Nat) : Bool := decide (p = .s ∨ s.group p ≠ g)

/-- The drive is reserved by a group that the path is outside (R149). -/
def State.reservedAway (s : State) (d : Drive) (p : Path) : Bool :=
  match s.reservedBy d with
  | some g => s.outside p g
  | none => false

/-- The path is marked awaiting release for the drive. -/
def State.markRelease (s : State) (p : Path) (d : Drive) : State :=
  s.setPort p { s.port p with awaitRelease := (s.port p).awaitRelease.set d true }

/-- A path that is marked, or named by the rule of the release, loses its mark and gets RELEASED (R147). -/
def State.giveReleased (s : State) (d : Drive) (named : Bool) (p : Path) : State :=
  if (s.port p).awaitRelease.get d || named then
    (s.setPort p { s.port p with awaitRelease := (s.port p).awaitRelease.set d false }).raise
      ⟨.released, d, .none⟩ p
  else s

/-- A release of a drive: UNRESERVED, and RELEASED to the marked paths and to the members of `former`,
the former holder group where the rule names its members (R147, R152). -/
def State.releaseDrive (s : State) (d : Drive) (former : Option Nat) : State :=
  allPaths.foldl
    (fun s p => s.giveReleased d
      (match former with | some g => !s.outside p g | none => false) p)
    (s.setReserved d none)

/-- A group has lost its last member: its drives are released (R145). Group 0 is no group. -/
def State.emptyGroup (s : State) (g : Nat) : State :=
  if g ≠ 0 ∧ ∀ p ∈ [Path.a, .b, .c, .d], s.group p ≠ g then
    allDrives.foldl (fun s d => if s.reservedBy d = some g then s.releaseDrive d none else s) s
  else s

/-! ## The condition record (R107–R110) -/

/-- A count that saturates at 255. -/
def sat255 (n : Nat) : Nat := min n 255

/-- An ending frame goes out and meets the path's condition record (R108). The ABANDONED endings of a director
reset are not taken in (R169). A refusal is taken in with no tag, as R164 says, the one a refused queued order named
included, where R107 and R108 speak of the ending's tag (DESIGN CHOICE between the rules; log entry 35). -/
def State.capture (s : State) (p : Path) (e : Ending) : State :=
  if e.code = .normal ∨ e.code = .abandoned then s
  else
    let c := (s.port p).condition
    let n := if e.refusal then none else e.tag.bind (s.note? p)
    let c' : ConditionRecord :=
      match c.held with
      | some _ => { c with further := sat255 (c.further + 1) }
      | none =>
        { c with
          held := some ⟨if e.refusal then none else e.tag, e.code, e.drive, e.block,
            (match n with | some n => n.lastStep | none => 0), (match n with | some n => n.burst | none => 0)⟩ }
    s.setPort p { s.port p with condition := c' }

/-- The record is EMPTY, further endings 0. -/
def ConditionRecord.empty : ConditionRecord := ⟨none, 0⟩

/-! ## Idle and free drives (R51, R135) -/

/-- The entry in service of a drive's queue, if any (R45). -/
def State.serving (s : State) (d : Drive) : Option Request := (s.queue d).find? (·.inService)

/-- The drive is idle: an empty queue, and READY or held by scan control (R135). -/
def State.idle (s : State) (d : Drive) : Bool :=
  (s.queue d).isEmpty &&
    (decide ((s.monOf d).state = .ready) || decide ((s.scanOf d).phase ≠ .none))

/-- READY with an empty queue. -/
def State.readyEmpty (s : State) (d : Drive) : Bool :=
  decide ((s.monOf d).state = .ready) && (s.queue d).isEmpty

/-- The drive is free for the scheduler: READY, nothing in service, a queue that is not empty (R51). -/
def State.freeDrive (s : State) (d : Drive) : Bool :=
  decide ((s.monOf d).state = .ready) && (s.serving d).isNone && !(s.queue d).isEmpty

end Sys2Proof.Machine
end

