-- ==== Sys2Proof/Machine/Spare.lean ====
section
/-! DEFINITION. Changes to the spare map (R36–R39), the watch list and its threshold test (R111–R115), and copies into the track buffer (R124). -/

namespace Sys2Proof.Machine

/-! ## The spare map -/

/-- The order of records: (drive, alternate cylinder, alternate head) (R33). -/
def MapRec.before (a b : MapRec) : Bool :=
  decide (a.drive < b.drive) || (decide (a.drive = b.drive) && a.alt.before b.alt)

/-- A record takes its place by its key (R33). -/
def insertRec (r : MapRec) : List MapRec → List MapRec
  | [] => [r]
  | x :: xs => if r.before x then r :: x :: xs else x :: insertRec r xs

/-- The answer to a request for a PENDING record (R36). -/
inductive Created where
  | alternate (t : Track)
  | poolExhausted
  | mapFull
deriving DecidableEq, Repr

/-- The translation unit's answer to a request for a PENDING record for a drive (R36). -/
def State.createAnswer (s : State) (d : Drive) : Created :=
  match lowestFree s.map (s.geom d) d with
  | none => .poolExhausted
  | some t => if s.map.length < Config.mapCapacity then .alternate t else .mapFull

/-- The map after that answer: a PENDING record is added, or the map is unchanged (R36). -/
def State.createPending (s : State) (d : Drive) (home : Track) : State :=
  match s.createAnswer d with
  | .alternate t => s.setMap (insertRec ⟨d, t, .pending home⟩ s.map)
  | _ => s

/-- Activation's change to one record: the PENDING record of the drive becomes ACTIVE, the home's old ACTIVE
record WITHDRAWN (R37). -/
def MapRec.activate (d : Drive) (home : Track) (r : MapRec) : MapRec :=
  if r.drive = d then
    match r.kind with
    | .pending h => { r with kind := .active h }
    | .active h => if h = home then { r with kind := .withdrawn } else r
    | .withdrawn => r
  else r

/-- Activation (R37). -/
def State.activate (s : State) (d : Drive) (home : Track) : State :=
  s.setMap (s.map.map (MapRec.activate d home))

/-- Withdrawal's change to one record (R38). -/
def MapRec.withdraw (d : Drive) (r : MapRec) : MapRec :=
  if r.drive = d ∧ r.pendingHome ≠ none then { r with kind := .withdrawn } else r

/-- Withdrawal of the PENDING record (R38). -/
def State.withdraw (s : State) (d : Drive) : State := s.setMap (s.map.map (MapRec.withdraw d))

/-- Removal of the PENDING record (R38). -/
def State.removePending (s : State) (d : Drive) : State :=
  s.setMap (s.map.filter fun r => ¬(r.drive = d ∧ r.pendingHome ≠ none))

/-- Replacement of all records of a drive (R39): the drive's new records stand between those of the lower and
those of the higher drives, in their order. -/
def State.replaceRecords (s : State) (d : Drive) (rs : List MapRec) : State :=
  s.setMap (s.map.filter (fun r => r.drive < d) ++ rs ++ s.map.filter (fun r => d < r.drive))

/-! ## The watch list -/

/-- The home of a physical track: itself in the host range, the home of the ACTIVE record that names it
otherwise (R114). -/
def State.homeOf (s : State) (d : Drive) (t : Track) : Option Track :=
  if (s.geom d).inHost t then some t else (mapNaming s.map d t).bind MapRec.activeHome

/-- Reports about the track have weight: a host-range track that no ACTIVE record names as its home, or an
ACTIVE alternate (R111, R112). -/
def State.weighs (s : State) (d : Drive) (t : Track) : Bool :=
  if (s.geom d).inHost t then (activeAlternate s.map d t).isNone
  else ((mapNaming s.map d t).bind MapRec.activeHome).isSome

/-- The entry names this track. -/
def WatchEntry.names (e : WatchEntry) (d : Drive) (t : Track) : Bool := decide (e.drive = d ∧ e.track = t)

/-- The lowest score among the entries whose queued item is no. -/
def lowestScore : List WatchEntry → Option Nat
  | [] => none
  | e :: es =>
    match lowestScore es with
    | none => if e.queued then none else some e.score
    | some n => if e.queued then some n else some (min e.score n)

/-- The list without the earliest entry that `p` holds of. -/
def dropFirst {α : Type} (p : α → Bool) : List α → List α
  | [] => []
  | x :: xs => if p x then xs else x :: dropFirst p xs

/-- Eviction: the entry not queued with the lowest score, the earliest of equals (R113). -/
def evict (l : List WatchEntry) : List WatchEntry :=
  match lowestScore l with
  | some n => dropFirst (fun e => !e.queued && decide (e.score = n)) l
  | none => l

/-- A weight is added to the list (R113). A full list of queued entries, which R113 rules out, stays as it is. -/
def addWeight (l : List WatchEntry) (d : Drive) (t : Track) (w : Nat) : List WatchEntry :=
  if l.any (·.names d t) then l.map fun e => if e.names d t then { e with score := sat255 (e.score + w) } else e
  else
    let l' := if l.length < Config.watchCapacity then l else evict l
    if l'.length < Config.watchCapacity then l' ++ [⟨d, t, sat255 w, false, false⟩] else l'

/-- Set queued yes on the entry of a track. -/
def State.setQueued (s : State) (d : Drive) (t : Track) : State :=
  s.setWatch (s.watch.map fun e => if e.names d t then { e with queued := true } else e)

/-- The home is in the relocation queue or is the home of the active relocation (R114, R117). -/
def State.homeBusy (s : State) (d : Drive) (home : Track) : Bool :=
  s.relocQ.any (fun e => e.drive = d ∧ e.home = home) ||
    (match s.reloc with | some r => decide (r.drive = d ∧ r.home = home) | none => false)

/-- The threshold test of the entry that received weight (R114). -/
def State.thresholdTest (s : State) (d : Drive) (t : Track) : State :=
  match s.watch.find? (·.names d t) with
  | none => s
  | some e =>
    if s.policy.watchThreshold ≤ e.score ∧ !e.queued ∧ !e.unrelocatable then
      match s.homeOf d t with
      | none => s
      | some home =>
        if (s.geom d).autoSpare then
          if s.homeBusy d home then s.setQueued d t
          else if s.relocQ.length < Config.relocationCapacity then
            (s.setRelocQ (s.relocQ ++ [⟨d, home, .watch⟩])).setQueued d t
          else s
        else s.raiseAll ⟨.watchThreshold, d, .watch t e.score⟩
    else s

/-- A report of weight `w` about a physical track (R112–R114). -/
def State.report (s : State) (d : Drive) (t : Track) (w : Nat) : State :=
  if w ≠ 0 ∧ s.weighs d t then (s.setWatch (addWeight s.watch d t w)).thresholdTest d t else s

/-- The weight of a first read (Table 6-3). -/
def firstReadWeight : ReadOutcome → Nat
  | .correctable => 1
  | _ => 0

/-- The weight of a walk's result RECOVERED (Table 6-3). -/
def recoveredWeight : Nat := 4

/-- The weight of a walk's result EXHAUSTED (Table 6-3). -/
def exhaustedWeight : Nat := 16

/-- Change every watch entry of a drive whose home is this home (R120, R128, R130). -/
def State.forHome (s : State) (d : Drive) (home : Track) (f : WatchEntry → WatchEntry) : State :=
  s.setWatch (s.watch.map fun e => if e.drive = d ∧ s.homeOf d e.track = some home then f e else e)

/-! ## The track buffer -/

/-- Replace the block of one sector. -/
def setBlock (bs : List BufBlock) (sec : Nat) (x : BufBlock) : List BufBlock := bs.set sec x

/-- The state of the block of a sector. -/
def blockState (bs : List BufBlock) (sec : Nat) : BufState :=
  match bs[sec]? with
  | some b => b.st
  | none => .unread

/-- The sectors whose block is FAILING, in ascending order (R122). -/
def failingSet (bs : List BufBlock) : List Nat :=
  (List.range 32).filter fun i => blockState bs i = .failing

/-- No block is FAILING and none is UNREAD (R122). -/
def bufferSettled (bs : List BufBlock) : Bool := bs.all fun b => b.st = .good ∨ b.st = .damaged

/-- The number of DAMAGED blocks (R127). -/
def damagedCount (bs : List BufBlock) : Nat := (bs.filter fun b => b.st = .damaged).length

/-- A sector leaves the failing set; a set emptied this way ends the walk (R123). -/
def State.leaveWalk (s : State) (d : Drive) (sec : Nat) : State :=
  match s.trackWalk with
  | some w =>
    if w.drive = d then
      let rest := w.failing.filter (· ≠ sec)
      if rest.isEmpty then s.setTrackWalk none else s.setTrackWalk (some { w with failing := rest })
    else s
  | none => s

/-- A completed host write is offered to relocation control: it is copied when its logical track is the home
of the PENDING record (R82, R123, R124). -/
def State.offerWrite (s : State) (d : Drive) (t : Track) (sec : Nat) (bytes : List Byte) : State :=
  match s.reloc with
  | some r =>
    if r.drive = d ∧ r.home = t then
      (s.setBuffer { s.buffer with blocks := setBlock s.buffer.blocks sec ⟨.good, bytes⟩ }).leaveWalk d sec
    else s
  | none => s

end Sys2Proof.Machine
end

