-- ==== Sys2Proof/Machine/Transfer.lean ====
section
/-! DEFINITION. Requests, their endings and misses, the engine's release and grant, the loss of a drive, and the relocation's own seeks (chapters 1, 3, 4, 6, 9). -/

namespace Sys2Proof.Machine

/-! ## Requests in queues (R45, R46) -/

/-- The request is the one of this path and tag (R45). -/
def Request.is (r : Request) (p : Path) (t : Tag) : Bool := decide (r.path = p ∧ r.tag = t)

/-- The request of a drive's queue with this path and tag. -/
def State.req? (s : State) (d : Drive) (p : Path) (t : Tag) : Option Request :=
  (s.queue d).find? (·.is p t)

/-- A request record changes in place. -/
def State.updReq (s : State) (d : Drive) (p : Path) (t : Tag) (f : Request → Request) : State :=
  s.setQueue d ((s.queue d).map fun r => if r.is p t then f r else r)

/-- The request's next block as an ending names it: READ, WRITE and VERIFY only (R104, Table 5-5). -/
def State.nextConcerned (s : State) (d : Drive) (r : Request) : Option Concerned :=
  if r.order.transfers then some (concernedOf s.map (s.geom d) d r.direct (r.next (s.geom d))) else none

/-- The ending frame of a queued request (R165). -/
def endingOf (d : Drive) (r : Request) (code : Code) (block : Option Concerned) (reserved : Bool) : Ending where
  tag := some r.tag
  code := code
  refusal := false
  reserved := reserved
  drive := some d
  blocksDone := if r.order.transfers then r.blocksDone else 0
  block := block
  entry := none

/-! ## Engine: holders, candidates, release (R68, R70) -/

/-- The drive of a piece of work. -/
def Work.drive : Work → Drive
  | .host d _ _ => d
  | .reloc d => d
  | .scan d => d

/-- A host candidate, as against a pass candidate. -/
def Work.isHost : Work → Bool
  | .host _ _ _ => true
  | _ => false

/-- The path of a host request's work. -/
def Work.path? : Work → Option Path
  | .host _ p _ => some p
  | _ => none

/-- Work is offered to the engine; a candidate stands once in the list (R69, R72). -/
def State.offer (s : State) (w : Work) : State :=
  if w ∈ s.engine.candidates then s
  else s.setEngine { s.engine with candidates := s.engine.candidates ++ [w] }

/-- Work leaves the candidate list (R70). -/
def State.unoffer (s : State) (w : Work) : State :=
  s.setEngine { s.engine with candidates := s.engine.candidates.filter (· ≠ w) }

/-- The engine is released: no holder, both slots EMPTY, the candidates stay (R68, R77). -/
def State.releaseEngine (s : State) : State := s.setEngine (Engine.freeWith s.engine.candidates)

/-- The request holds the engine. -/
def State.holds (s : State) (d : Drive) (p : Path) (t : Tag) : Bool :=
  s.engine.holder == some (.host d p t)

/-- The request is connected: from the ACCEPT of its recall to its ending or continuation (R68). -/
def State.connected (s : State) (d : Drive) (p : Path) (t : Tag) : Bool :=
  s.holds d p t && (s.engine.phase == .running || s.engine.phase == .draining)

/-- The request leaves the engine and the candidate list: its gate drops, its walk ends, a recall being offered
is withdrawn and its path is FREE (R70, R74, R102). The link of a connected path is left to the caller. -/
def State.detach (s : State) (d : Drive) (p : Path) (t : Tag) : State :=
  let s0 := s.unoffer (.host d p t)
  if s.holds d p t then
    let s1 := ((s0.releaseEngine).dropGate d).setWalk none
    if s.engine.phase = .recalling then s1.freeLink p else s1
  else s0

/-! ## Endings (R50, R159, R165) -/

/-- The request ends: its tag slot is ENDING; its frame closes its connection or joins its path's ending list;
it leaves its queue (R50, R159, R165). -/
def State.endRequest (s : State) (d : Drive) (r : Request) (e : Ending) : State :=
  let s1 := (s.detach d r.path r.tag).setTag r.path r.tag .ending
  let s2 :=
    if s.connected d r.path r.tag then s1.send r.path [.ending e]
    else s1.setPort r.path { s1.port r.path with endings := (s1.port r.path).endings ++ [e] }
  s2.loseEntries d ((s2.queue d).filter fun x => !x.is r.path r.tag)

/-- The request ends with a code, naming its next block (Table 5-5). -/
def State.endWith (s : State) (d : Drive) (code : Code) (r : Request) : State :=
  s.endRequest d r (endingOf d r code (s.nextConcerned d r) false)

/-! ## Misses (R75, R76) -/

/-- The request in service on the drive would end STALLED at its next miss (R76). -/
def State.wouldStall (s : State) (d : Drive) : Bool :=
  match s.serving d with
  | some r => decide (s.policy.stallLimit ≤ r.missCount + 1)
  | none => false

/-- The request in service on the drive takes a miss; at the stall limit it ends STALLED and the drive enters
READY (R76). A block in hand when an index mismatch brings that miss is not finished: its gate drops and it leaves the
engine at once, R76's "any gate drops" over R11's "the engine finishes the block in hand" (DESIGN CHOICE; log entry
44). A STALLED ending before the first mark leaves the mark check as it stands, of which R76 does not speak (DESIGN CHOICE;
log entry 57). -/
def State.takeMiss (s : State) (d : Drive) : State :=
  match s.serving d with
  | none => s
  | some r =>
    if r.missCount + 1 < s.policy.stallLimit then
      s.updReq d r.path r.tag fun x => { x with missCount := x.missCount + 1 }
    else
      let s1 := s.updReq d r.path r.tag fun x => { x with missCount := s.policy.stallLimit }
      (s1.endWith d .stalled r).enterReady d

/-! ## Loss of a drive (R20, R21, R88) -/

/-- The engine works on this drive: its holder or the sector in hand is there. -/
def State.engineOn (s : State) (d : Drive) : Bool :=
  (match s.engine.holder with | some w => decide (w.drive = d) | none => false) ||
    (match s.engine.hand with | some h => decide (h.drive = d) | none => false)

/-- The drive's candidates leave the list, and the engine is released if it works on the drive (R88). -/
def State.clearEngineOf (s : State) (d : Drive) : State :=
  let cands := s.engine.candidates.filter (·.drive ≠ d)
  (if s.engineOn d then s.setEngine (Engine.freeWith cands)
   else s.setEngine { s.engine with candidates := cands }).dropGate d

/-- A track walk in progress ends without report: offset NONE and strobe NORMAL are issued (R103). -/
def State.endTrackWalk (s : State) : State :=
  match s.trackWalk with
  | some w => (s.setTrackWalk none).cmdCentre w.drive
  | none => s

/-- The active relocation is abandoned: the PENDING record is removed, the buffer freed, the home's watch entries are
no longer queued, a track walk ends (R130, R103). The engine is the caller's. -/
def State.abandonReloc (s : State) : State :=
  match s.reloc with
  | none => s
  | some r =>
    ((((s.endTrackWalk.removePending r.drive).setBuffer Buffer.free).forHome r.drive r.home
      fun e => { e with queued := false })).setReloc none

/-- The active relocation is abandoned if it is on this drive. -/
def State.abandonRelocOf (s : State) (d : Drive) : State :=
  match s.reloc with
  | some r => if r.drive = d then s.abandonReloc else s
  | none => s

/-- The effects on gates, the engine, the queue, relocation and scan of a drive that is lost: every request
ends, the one in service with `code` (R20, R21). -/
def State.loseDrive (s : State) (d : Drive) (code : Code) : State :=
  let s1 := (s.queue d).foldl (fun s r => s.endWith d (if r.inService then code else .driveLost) r) s
  ((s1.clearEngineOf d).abandonRelocOf d).setScan d ScanState.initial

/-- The ending of the request in service under each cause (R20). -/
def FaultCause.ending : FaultCause → Code
  | .seek => .seekFault
  | .write => .writeFault
  | _ => .driveLost

/-- A drive enters FAULTED (R20). -/
def State.enterFaulted (s : State) (d : Drive) (cause : FaultCause) : State :=
  let s1 := s.loseDrive d cause.ending
  (s1.setMon d { s1.monOf d with state := .faulted, cause := cause, gateOpen := false }).raiseAll
    ⟨.driveFault, d, .fault cause⟩

/-- A drive enters OFFLINE by an online fall (R21). -/
def State.enterOffline (s : State) (d : Drive) : State :=
  let s1 := s.loseDrive d .driveLost
  (s1.setMon d
    { s1.monOf d with state := .offline, cause := .none, markCheck := .none, gateOpen := false }).raiseAll
    ⟨.driveFault, d, .offline⟩

/-- A drive monitor enters SPIN CHECK (R6). -/
def State.enterSpinCheck (s : State) (d : Drive) : State :=
  s.setMon d
    { s.monOf d with
      state := .spinCheck, gatePasses := 0, gateFails := 0, lastGatePassed := false, gatePulses := 0,
      mismatch := 0, indexTaken := false, cause := .none, gateOpen := false }

/-- The drive's geometry entry names a non-empty profile (R6). -/
def State.profileReady (s : State) (d : Drive) : Bool := !(s.profiles.get (s.geom d).profile).isEmpty

/-- An OFFLINE drive whose online line is high and whose profile is non-empty enters SPIN CHECK (R6). -/
def State.trySpinCheck (s : State) (d : Drive) : State :=
  if (s.monOf d).state = .offline ∧ (s.sideOf d).onlineLine ∧ s.profileReady d then s.enterSpinCheck d else s

/-! ## The relocation's own seeks (R120, R123, R125) -/

/-- Relocation control asks for the seek to a track; a drive already there is offered to the engine at once. -/
def State.seekForReloc (s : State) (d : Drive) (t : Track) : State :=
  let s1 := (s.clearIdle d).askSeek d t
  if (s1.monOf d).state = .orienting then s1.offer (.reloc d) else s1

/-- The COMMIT begins if the relocation is HELD and its drive READY with an empty queue (R125). -/
def State.beginCommit (s : State) : State :=
  match s.reloc with
  | some r =>
    if r.stage = .held ∧ s.readyEmpty r.drive then
      (s.setReloc (some { r with stage := .commit, rev := .none, holds := true })).seekForReloc r.drive r.alternate
    else s
  | none => s

/-- A read pass that a reseek failure stopped: complete when no block is FAILING or UNREAD, resumed when the
drive is READY with an empty queue (R123). -/
def State.resumeRead (s : State) : State :=
  match s.reloc with
  | some r =>
    if r.stage = .readPass ∧ !r.holds then
      if bufferSettled s.buffer.blocks then (s.setReloc (some { r with stage := .held })).beginCommit
      else if s.readyEmpty r.drive then
        (s.setReloc (some { r with holds := true })).seekForReloc r.drive r.source
      else s
    else s
  | none => s

/-! ## The port's own frames begin (R161, R167) -/

/-- The head of the ending list goes out (R161). -/
def State.beginEnding (s : State) (p : Path) : State :=
  match (s.port p).endings with
  | e :: rest => (s.setPort p { s.port p with endings := rest }).send p [.ending e]
  | [] => s

/-- The first member is sent before the second: lower rank, then lower drive (R167). -/
def Notice.before (a b : Notice) : Bool :=
  decide (a.kind.number < b.kind.number) ||
    (decide (a.kind.number = b.kind.number) && decide (a.drive < b.drive))

/-- The member of a raw set that goes out: an enabled one of the lowest rank, then the lowest drive (R167). -/
def chooseNotice (mask : BitVec 8) : List Notice → Option Notice
  | [] => none
  | n :: ns =>
    match chooseNotice mask ns with
    | none => if n.kind.inMask mask then some n else none
    | some m => if n.kind.inMask mask ∧ m.before n = false then some n else some m

/-- The chosen notice goes out and leaves the raw set (R167). -/
def State.beginNotice (s : State) (p : Path) : State :=
  match chooseNotice (s.port p).mask (s.port p).raw with
  | some n =>
    (s.setPort p { s.port p with raw := (s.port p).raw.filter fun m => !m.sameKey n }).send p [.notice n]
  | none => s

/-- The port's next frame on a FREE link: an ending, else a notice (R161). -/
def State.portFrame (s : State) (p : Path) : State :=
  if (s.port p).link = .free then
    if (s.port p).endings.isEmpty then s.beginNotice p else s.beginEnding p
  else s

/-- The port has a frame of its own to begin: an ending, or an enabled notice (R161). -/
def State.portWaits (s : State) (p : Path) : Bool :=
  !(s.port p).endings.isEmpty || (chooseNotice (s.port p).mask (s.port p).raw).isSome

/-! ## Granting the engine (R71–R73) -/

/-- A host candidate is eligible while its path is FREE (R70). -/
def State.eligible (s : State) (w : Work) : Bool :=
  match w.path? with
  | some p => (s.port p).link == .free
  | none => false

/-- The miss count of a host candidate's request (R71). -/
def State.missOf (s : State) (w : Work) : Nat :=
  match w with
  | .host d p t => match s.req? d p t with | some r => r.missCount | none => 0
  | _ => 0

/-- The first is granted before the second: the higher miss count, then the lower drive (R71). -/
def State.beats (s : State) (a b : Work) : Bool :=
  decide (s.missOf b < s.missOf a) || (decide (s.missOf a = s.missOf b) && decide (a.drive < b.drive))

/-- The eligible host candidate to be granted (R71). -/
def State.bestHost (s : State) : List Work → Option Work
  | [] => none
  | w :: ws =>
    if s.eligible w then
      match s.bestHost ws with
      | none => some w
      | some v => if s.beats v w then some v else some w
    else s.bestHost ws

/-- The pass candidate to be granted: a relocation pass before a scan pass, the lowest drive first (R72). -/
def bestPass (ws : List Work) : Option Work :=
  match ws.find? (fun w => match w with | .reloc _ => true | _ => false) with
  | some w => some w
  | none => (allDrives.find? fun d => Work.scan d ∈ ws).map Work.scan

/-- The engine is granted to a host request: RECALLING, and the recall goes out (R71, R73). -/
def State.grantHost (s : State) (d : Drive) (p : Path) (t : Tag) : State :=
  let s0 := s.unoffer (.host d p t)
  match s.req? d p t with
  | none => s0
  | some r =>
    let n := r.next (s.geom d)
    let e : Engine :=
      { Engine.freeWith s0.engine.candidates with
        holder := some (.host d p t), phase := .recalling, resume := r.resume
        current := some ⟨n, physOf s.map (s.geom d) d r.direct n⟩ }
    (s0.setEngine e).send p [.recall t r.blocksDone r.resume]

/-- Offset and strobe of a ladder's step (from 1). -/
def stepAt (l : List LadderStep) (n : Nat) : Option LadderStep := l[n - 1]?

/-- The settings of a ladder's step are put on the drive (R96, R103); a write never leaves the track centre
(R100). -/
def State.issueStep (s : State) (d : Drive) (l : List LadderStep) (n : Nat) (write : Bool) : State :=
  match stepAt l n with
  | some x => s.cmdSettings d (if write then .none else x.offset) x.strobe
  | none => s

/-- A pass takes the engine: PASS, and its drive TRANSFERRING (R72). -/
def State.grantPass (s : State) (w : Work) : State :=
  let s0 := s.unoffer w
  let e : Engine := { Engine.freeWith s0.engine.candidates with holder := some w, phase := .pass }
  (s0.setEngine e).setDriveState w.drive .transferring

/-- The commit revolution at a COMMIT's grant: CHECK when a mark check stands, WRITE otherwise (R125). -/
def State.beginRevolution (s : State) (d : Drive) : State :=
  match s.reloc with
  | some r =>
    if r.stage = .commit then
      let rev : CommitRev := if (s.monOf d).markCheck = .none then .write else .check
      s.setReloc (some { r with rev := rev })
    else s
  | none => s

/-- What the owner of the pass does at the grant: the commit revolution (R125), the walk's settings and its count of
rereads left, which falls before the revolution (R103), the scan phase (R137). -/
def State.passGranted (s : State) (w : Work) : State :=
  match w with
  | .reloc d =>
    let s1 := s.beginRevolution d
    match s1.trackWalk with
    | some w => (s1.setTrackWalk (some { w with left := w.left - 1 })).issueStep d w.ladder w.step false
    | none => s1
  | .scan d => s.setScan d { s.scanOf d with phase := .pass, results := [] }
  | .host _ _ _ => s

/-- The arbiter's grant of a FREE engine (R71, R72). -/
def State.grantBest (s : State) : State :=
  match s.bestHost s.engine.candidates with
  | some (.host d p t) => s.grantHost d p t
  | some _ => s
  | none =>
    if s.engine.candidates.any (·.isHost) then s
    else
      match bestPass s.engine.candidates with
      | some w => (s.grantPass w).passGranted w
      | none => s

/-- Where the path of the candidate to be granted has a frame of its own to begin, either may be taken first, by a free
choice: its own frame takes the link, and the arbiter looks again, or the grant follows (R160; log entry 12). Each path
can come first once. -/
def State.portsFirst (s : State) (n : Nat) : State :=
  match n with
  | 0 => s
  | n + 1 =>
    match s.bestHost s.engine.candidates with
    | some (.host _ p _) =>
      if s.portWaits p then
        let s1 := s.setChoices (s.choices + 1)
        if Config.portFirst s.choices then (s1.portFrame p).portsFirst n else s1
      else s
    | _ => s

/-- The engine's arbiter: a FREE engine is granted, after the frames that go before the grant (R71, R72, R160). -/
def State.grant (s : State) : State :=
  if s.engine.phase = .free then (s.portsFirst 5).grantBest else s

/-- What follows every event that may free the engine or a drive: a stopped read pass is completed or
resumed (R123), and the engine is granted (R71, R72). -/
def State.settle (s : State) : State := s.resumeRead.grant

end Sys2Proof.Machine
end

