-- ==== Sys2Proof/Machine/Engine.lean ====
section
/-! DEFINITION. The transfer engine's blocks: staging, the mark check, reading, writing, merging, recovery walks, track boundaries and the end of a transfer (chapters 4 and 5, R14, R15). -/

namespace Sys2Proof.Machine

/-! ## Staging slots (R77) -/

/-- A block takes the next slot in turn; the other one when that is in use. -/
def Engine.place (e : Engine) (x : Slot) : Engine :=
  if e.turn2 then
    if e.slot2.st = .empty then { e with slot2 := x, turn2 := false }
    else if e.slot1.st = .empty then { e with slot1 := x, turn2 := true } else e
  else
    if e.slot1.st = .empty then { e with slot1 := x, turn2 := true }
    else if e.slot2.st = .empty then { e with slot2 := x, turn2 := false } else e

/-- Both slots change by a rule. -/
def Engine.mapSlots (e : Engine) (f : Slot → Slot) : Engine := { e with slot1 := f e.slot1, slot2 := f e.slot2 }

/-- The bytes of the FULL slot that holds a block. -/
def Engine.fullBytes (e : Engine) (n : Nat) : Option (List Byte) :=
  if e.slot1.st = .full ∧ e.slot1.block = n then some e.slot1.bytes
  else if e.slot2.st = .full ∧ e.slot2.block = n then some e.slot2.bytes
  else none

/-- Both slots are FULL (R79). -/
def Engine.bothFull (e : Engine) : Bool := decide (e.slot1.st = .full ∧ e.slot2.st = .full)

/-- No slot is FULL. -/
def Engine.noneFull (e : Engine) : Bool := decide (e.slot1.st ≠ .full ∧ e.slot2.st ≠ .full)

/-- The block of the FULL slot the path takes next: the lower number (R77). -/
def Engine.oldestFull (e : Engine) : Option Slot :=
  if e.slot1.st = .full then
    if e.slot2.st = .full ∧ e.slot2.block < e.slot1.block then some e.slot2 else some e.slot1
  else if e.slot2.st = .full then some e.slot2 else none

/-- The slots that hold a block become EMPTY. -/
def Engine.emptyBlock (e : Engine) (n : Nat) : Engine :=
  e.mapSlots fun x => if x.st ≠ .empty ∧ x.block = n then Slot.none else x

/-- The next block the engine asks the path for (R81): after those staged, from the current block on. -/
def Engine.nextAsk (e : Engine) (cur : Nat) : Nat :=
  let after (x : Slot) (n : Nat) : Nat := if x.st = .empty then n else max n (x.block + 1)
  after e.slot1 (after e.slot2 cur)

/-- The engine asks for one more block of a WRITE if a slot is EMPTY: of this track, or of the next after the
lookahead gave it on the same cylinder; never beyond the last block (R81). -/
def Engine.askOne (e : Engine) (cur last : Nat) : Engine :=
  let n := e.nextAsk cur
  let onward : Bool := match e.nextTrack with | some x => x.sameCyl | none => false
  if n ≤ last ∧ (n / 32 = cur / 32 ∨ (n / 32 = cur / 32 + 1 ∧ onward = true)) then
    e.place ⟨.filling, n, []⟩
  else e

/-- The engine asks for as many blocks of a WRITE as R81 lets it. -/
def State.askBlocks (s : State) (d : Drive) (r : Request) : State :=
  match s.engine.current with
  | some c =>
    if r.order = .write then
      let last := r.last (s.geom d)
      s.setEngine ((s.engine.askOne c.block last).askOne c.block last)
    else s
  | none => s

/-! ## The mark check (R14, R15) -/

/-- The active relocation record changes. -/
def State.updReloc (s : State) (f : Reloc → Reloc) : State := s.setReloc (s.reloc.map f)

/-- A reseek failure stops the stage: a read pass keeps its stage, a COMMIT returns to HELD; the drive is given
back (R15). -/
def Reloc.stopped (r : Reloc) : Reloc :=
  { r with rev := .none, holds := false, stage := if r.stage = .commit then .held else r.stage }

/-- A revolution of the track walk that was granted is not made: its reread is not taken (R103). -/
def State.keepReread (s : State) : State := s.setTrackWalk (s.trackWalk.map fun w => { w with left := w.left + 1 })

/-- The first mark after a seek fails its cylinder check: one reseek (R14). -/
def State.markMismatch (s : State) (d : Drive) : State :=
  let s1 :=
    match s.engine.holder with
    | some (.host _ p t) => (s.detach d p t).freeLink p
    | some (.reloc _) =>
      ((s.updReloc fun r => { r with rev := .none }).keepReread).clearEngineOf d
    | some (.scan _) =>
      (s.setScan d { s.scanOf d with phase := .seeking, results := [] }).clearEngineOf d
    | none => s
  s1.startRecal d .reseek .reseek

/-- The mark fails again after the reseek: the work in service ends or is stopped (R15). -/
def State.reseekFailed (s : State) (d : Drive) : State :=
  let s1 :=
    match s.engine.holder with
    | some (.host _ _ _) =>
      match s.serving d with
      | some r => s.endWith d .seekFault r
      | none => s
    | some (.reloc _) =>
      ((s.updReloc Reloc.stopped).keepReread).clearEngineOf d
    | some (.scan _) => (s.setScan d ScanState.initial).clearEngineOf d
    | none => s
  s1.startRecal d .plain .none

/-- A mark is read while the mark check stands: it passes to `k` with the mark check none, or R14 or R15
applies. -/
def State.checkedMark (s : State) (d : Drive) (e : Expect) (ph : Addr) (m : Mark) (k : State → State) : State :=
  if (s.monOf d).markCheck = .none then k s
  else if cylinderMatches e ph m then k (s.setMarkCheck d .none)
  else if (s.monOf d).markCheck = .pending then s.markMismatch d
  else s.reseekFailed d

/-! ## A block at its pulse (R78, R79, R82, R83, R85, R97, R100) -/

/-- The sector is taken in hand under a gate. -/
def State.takeHand (s : State) (d : Drive) (ph : Addr) (op : HandOp) (met : Bool) : State :=
  s.setEngine { s.engine with hand := some ⟨d, ph, op, met⟩ }

/-- The lookahead at sector 31 with blocks remaining (R43, R85). -/
def State.lookahead (s : State) (d : Drive) (r : Request) (c : CurBlock) : State :=
  if c.phys.sec = 31 ∧ c.block < r.last (s.geom d) then
    let t := (physOf s.map (s.geom d) d r.direct (c.block + 1)).track
    (s.setEngine { s.engine with nextTrack := some ⟨t, decide (t.cyl = c.phys.cyl)⟩ }).askBlocks d r
  else s

/-- The logical track of the current block (R41). -/
def State.logicalTrack (s : State) (d : Drive) (c : CurBlock) : Track := ((s.geom d).addrOf c.block).track

/-- The last block of a WRITE is merged when it is partial and its old contents are not yet overlaid (R83). -/
def State.needsMerge (s : State) (d : Drive) (r : Request) (c : CurBlock) : Bool :=
  decide (c.block = r.last (s.geom d) ∧ r.lastBytes < Config.blockBytes ∧ s.engine.merge ≠ .merged)

/-- A block is read into the next slot (R78, R80), or beside the new bytes of a merge (R83). -/
def State.beginRead (s : State) (d : Drive) (r : Request) (c : CurBlock) (met : Bool) : State :=
  let e := s.engine.place ⟨.filling, c.block, []⟩
  let e' : Engine := if r.order = .write then { e with merge := .oldRead } else e
  (((s.setEngine e').raiseGate d .read).takeHand d c.phys .firstRead met).lookahead d r c

/-- A block is written if its mark meets its expectation (R82); if not it goes to recovery control. -/
def State.beginWrite (s : State) (d : Drive) (r : Request) (c : CurBlock) (bytes : List Byte) (met : Bool) : State :=
  (if met then (s.raiseGate d .write).takeHand d c.phys (.write (s.logicalTrack d c) bytes) true
   else s.takeHand d c.phys .markFail false).lookahead d r c

/-- A reread of a block walk (R97, R100). -/
def State.beginReread (s : State) (d : Drive) (r : Request) (c : CurBlock) (w : BlockWalk) (met : Bool) : State :=
  let s1 := (s.setWalk (some { w with left := w.left - 1 })).updNote r.path r.tag
    fun n => { n with lastStep := w.step }
  match w.kind with
  | .readBlock => (s1.raiseGate d .read).takeHand d c.phys .reread met
  | .writeMark =>
    match s1.engine.fullBytes c.block with
    | some bytes =>
      if met then (s1.raiseGate d .write).takeHand d c.phys (.write (s1.logicalTrack d c) bytes) true
      else s1.takeHand d c.phys .markFail false
    | none => s1.takeHand d c.phys .markFail false

/-- The next block of the connected request cannot be handled at its sector: both slots FULL for a READ (R79),
its slot not FULL for a WRITE (R82). -/
def State.slotMiss (s : State) (r : Request) (c : CurBlock) : Bool :=
  s.walk.isNone &&
    (match r.order with
     | .read => s.engine.bothFull
     | .write => (s.engine.fullBytes c.block).isNone
     | _ => false)

/-- The pulse that begins the current block's sector, for the connected request (R78, R82). -/
def State.hostSector (s : State) (d : Drive) (r : Request) (c : CurBlock) (m : Mark) : State :=
  let x := expectation s.map (s.geom d) d c.phys.track false
  let met := meets x c.phys m
  match s.walk with
  | some w => s.beginReread d r c w met
  | none =>
    if s.slotMiss r c then s.takeMiss d
    else
      s.checkedMark d x c.phys m fun s =>
        if r.order = .write ∧ !s.needsMerge d r c then
          match s.engine.fullBytes c.block with
          | some bytes => s.beginWrite d r c bytes met
          | none => s
        else s.beginRead d r c met

/-! ## A sector of a pass (R72, R121, R125, R126, R127, R137) -/

/-- One more sector of the pass revolution has begun. -/
def State.countSector (s : State) : State := s.setEngine { s.engine with begun := s.engine.begun + 1 }

/-- A sector of a pass is read (R121, R127, R137). -/
def State.passRead (s : State) (d : Drive) (ph : Addr) (verify : Bool) (m : Mark) : State :=
  let x := expectation s.map (s.geom d) d ph.track verify
  s.checkedMark d x ph m fun s =>
    ((s.raiseGate d .read).takeHand d ph .passRead (meets x ph m)).countSector

/-- What the write revolution writes in a sector (R126). -/
def State.commitOut (s : State) (d : Drive) (r : Reloc) (sec : Nat) : WriteOut :=
  let damaged := decide (blockState s.buffer.blocks sec = .damaged)
  ⟨d, r.alternate.at sec, some (homeMark r.home sec),
    (match s.buffer.blocks[sec]? with | some b => b.bytes | none => []),
    if damaged then .damageTag else .computed⟩

/-- A sector pulse of a relocation pass. -/
def State.relocSector (s : State) (d : Drive) (r : Reloc) (sec : Nat) (m : Mark) : State :=
  match r.stage, r.rev with
  | .readPass, _ =>
    if s.engine.begun < 32 then
      if (match s.trackWalk with | some w => decide (sec ∈ w.failing) | none => true) then
        s.passRead d (r.source.at sec) false m
      else s.countSector
    else s
  | .commit, .check =>
    let ph := r.alternate.at sec
    let x := expectation s.map (s.geom d) d r.alternate false
    s.checkedMark d x ph m fun s => (s.raiseGate d .read).takeHand d ph .check true
  | .commit, .write =>
    if s.engine.begun < 32 then
      ((s.raiseGate d .write).takeHand d (r.alternate.at sec) (.passWrite (s.commitOut d r sec)) true).countSector
    else s
  | .commit, .verify =>
    if s.engine.begun < 32 then s.passRead d (r.alternate.at sec) true m else s
  | _, _ => s

/-- A sector pulse of a scan pass. -/
def State.scanSector (s : State) (d : Drive) (sec : Nat) (m : Mark) : State :=
  if s.engine.begun < 32 then s.passRead d ((s.monOf d).pointer.at sec) false m else s

/-! ## Continuation and the end of a transfer (R62, R85, R87, R148, R155) -/

/-- The request gives up the engine and the drive and waits again (R62, R85). -/
def State.continueLater (s : State) (d : Drive) (p : Path) (t : Tag) : State :=
  (((s.detach d p t).freeLink p).updReq d p t fun r =>
    { r with inService := false, continuation := true, age := Config.overdueAge }).enterReady d

/-- A waiting entry of a path outside the group ends RESERVED ELSEWHERE, and its path is marked (R148). -/
def State.ousted (s : State) (d : Drive) (r : Request) : State :=
  (s.endWith d .reservedElsewhere r).markRelease r.path d

/-- A reservation is taken for a drive by group `g`: every entry of its queue whose path is outside `g` ends, in arrival
order (R148). Those are waiting entries, as R148 says: the entry in service is the one whose service or ending takes the
reservation, and its path is of `g`. -/
def State.takeReservation (s : State) (d : Drive) (g : Nat) : State :=
  let s1 := s.setReserved d (some g)
  ((s1.queue d).filter fun r => s1.outside r.path g).foldl (fun s r => s.ousted d r) s1

/-- The group and fence unit's answer to a conditional READ that ends (R155). -/
def State.reserveAnswer (s : State) (d : Drive) (r : Request) : Bool :=
  r.order == .read && r.reserveIfClean && decide (r.outcome ≠ .recovered) && decide (r.path ≠ .s) &&
    decide (s.group r.path ≠ 0) &&
    (match s.reservedBy d with | some g => decide (g = s.group r.path) | none => true)

/-- The ending code of a transfer whose last block is done (R87). -/
def SoFar.code : SoFar → Code
  | .none => .normal
  | .corrected => .corrected
  | .recovered => .recovered

/-- The block concerned in the ending of a finished transfer: the note's block, none for NORMAL (Table 5-5). When a
block was corrected after the last one recovered, the note's block is the corrected one (R93), and the RECOVERED ending
names it: of Table 5-5's two words, "the note's block" (DESIGN CHOICE; log entry 42). -/
def State.noteBlock (s : State) (r : Request) : Option Concerned :=
  if r.outcome = .none then none else (s.note? r.path r.tag).bind (·.block)

/-- A READ, WRITE or VERIFY whose last block is done ends (R87). -/
def State.finishTransfer (s : State) (d : Drive) (p : Path) (t : Tag) : State :=
  match s.req? d p t with
  | none => s
  | some r =>
    let taken := s.reserveAnswer d r
    let s1 := if taken then s.takeReservation d (s.group r.path) else s
    (s1.endRequest d r (endingOf d r r.outcome.code (s.noteBlock r) taken)).enterReady d

/-- A transfer that fails on a block ends (R84, R99, R100). -/
def State.failTransfer (s : State) (d : Drive) (p : Path) (t : Tag) (code : Code) (b : Concerned) : State :=
  match s.req? d p t with
  | none => s
  | some r => (s.endRequest d r (endingOf d r code (some b) false)).enterReady d

/-- A DRAINING engine whose slots are taken goes on to its goal (R85, R87, R99). -/
def State.drained (s : State) (d : Drive) (p : Path) (t : Tag) : State :=
  if s.engine.phase = .draining ∧ s.engine.noneFull then
    match s.engine.drain with
    | .finish => s.finishTransfer d p t
    | .carryOn => s.continueLater d p t
    | .fail code b => s.failTransfer d p t code b
  else s

/-- A READ reads no further block on this connection; it drains toward a goal. The current block is none from here on:
R85 clears it at the continuation, and no rule says what it is while the engine is DRAINING (DESIGN CHOICE; log entry
45). -/
def State.startDrain (s : State) (d : Drive) (p : Path) (t : Tag) (goal : Drain) : State :=
  (s.setEngine { s.engine with phase := .draining, current := none, drain := goal }).drained d p t

/-- A host candidate of another drive has missed at least the yield threshold (R86). -/
def State.mustYield (s : State) (d : Drive) : Bool :=
  s.engine.candidates.any fun w => w.isHost && decide (w.drive ≠ d) && decide (s.policy.yieldThreshold ≤ s.missOf w)

/-- The engine goes on to the block after `c`, or the transfer reaches its end or a continuation (R78, R82,
R85, R86, R87). Where it goes on to the next track of the same cylinder, the next track item becomes none at the end of
sector 31: R85 clears it at a continuation, and no rule says when else (DESIGN CHOICE; log entry 46). -/
def State.afterBlock (s : State) (d : Drive) (r : Request) (c : CurBlock) : State :=
  if c.block = r.last (s.geom d) then
    if r.order = .read then s.startDrain d r.path r.tag .finish else s.finishTransfer d r.path r.tag
  else if c.phys.sec = 31 then
    let t := (physOf s.map (s.geom d) d r.direct (c.block + 1)).track
    if t.cyl = c.phys.cyl ∧ !s.mustYield d then
      ((s.cmdHead d t.head).setEngine
        { s.engine with current := some ⟨c.block + 1, t.at 0⟩, nextTrack := none }).askBlocks d r
    else if r.order = .read then s.startDrain d r.path r.tag .carryOn
    else s.continueLater d r.path r.tag
  else
    (s.setEngine
      { s.engine with current := some ⟨c.block + 1, { c.phys with sec := c.phys.sec + 1 }⟩ }).askBlocks d r

/-! ## A block at the end of its sector (R78, R80, R82–R84, R96–R101) -/

/-- A block as recovery control names it. -/
def State.blockName (s : State) (d : Drive) (r : Request) (c : CurBlock) : Concerned :=
  concernedOf s.map (s.geom d) d r.direct c.block

/-- The old block of a merge is overlaid: its leading last-block bytes are replaced by the new ones; one slot
holds the merged block, the other is EMPTY (R83). -/
def State.overlay (s : State) (r : Request) (c : CurBlock) (old : List Byte) : State :=
  let new := match s.engine.fullBytes c.block with | some bs => bs | none => []
  let merged := new.take r.lastBytes ++ old.drop r.lastBytes
  let e := s.engine.mapSlots fun x =>
    if x.st = .filling then ⟨.full, c.block, merged⟩ else if x.block = c.block then Slot.none else x
  s.setEngine { e with merge := .merged }

/-- The request's blocks done rise by one. -/
def State.blockDone (s : State) (d : Drive) (p : Path) (t : Tag) : State :=
  s.updReq d p t fun x => { x with blocksDone := x.blocksDone + 1 }

/-- A block fit to be used: offered to the path (READ), done (VERIFY), or overlaid (merge) (R78, R80, R83). -/
def State.fitBlock (s : State) (d : Drive) (r : Request) (c : CurBlock) (bytes : List Byte) : State :=
  match r.order with
  | .write => s.overlay r c bytes
  | .read =>
    (s.setEngine (s.engine.mapSlots fun x =>
      if x.st = .filling then ⟨.full, c.block, bytes⟩ else x)).afterBlock d r c
  | _ => ((s.setEngine (s.engine.emptyBlock c.block)).blockDone d r.path r.tag).afterBlock d r c

/-- The request ends on a block that cannot be read: a READ drains first (R84, R99). -/
def State.lostBlock (s : State) (d : Drive) (r : Request) (c : CurBlock) (damaged : Bool) : State :=
  let b := s.blockName d r c
  let s1 := ((s.cmdCentre d).setWalk none).setNotes
    (s.notes.map fun n => if n.path = r.path ∧ n.tag = r.tag then { n with block := some b } else n)
  let code : Code := if damaged ∧ r.order ≠ .write then .damaged else .dataCheck
  if r.order = .read then
    (s1.setEngine (s1.engine.mapSlots fun x => if x.st = .filling then Slot.none else x)).startDrain
      d r.path r.tag (.fail code b)
  else s1.failTransfer d r.path r.tag code b

/-- A block walk starts (R96). -/
def State.startWalk (s : State) (d : Drive) (r : Request) (c : CurBlock) (k : WalkKind) : State :=
  let left := match stepAt s.ladder 1 with | some x => x.rereads | none => 0
  ((s.setWalk (some ⟨k, d, r.path, r.tag, s.blockName d r c, s.ladder, 1, left⟩)).updNote r.path r.tag id).issueStep
    d s.ladder 1 (k == .writeMark)

/-- What a reread that fails leads to: the same step, the next step, or exhaustion (R97, R99, R100). -/
def State.rereadFailed (s : State) (d : Drive) (r : Request) (c : CurBlock) (w : BlockWalk) : State :=
  if 0 < w.left then s
  else
    match stepAt w.ladder (w.step + 1) with
    | some x =>
      (s.setWalk (some { w with step := w.step + 1, left := x.rereads })).issueStep d w.ladder (w.step + 1)
        (w.kind == .writeMark)
    | none => (s.report d c.phys.track exhaustedWeight).lostBlock d r c false

/-- A walk's block is recovered (R98, R100). -/
def State.recovered (s : State) (d : Drive) (r : Request) (c : CurBlock) (burst : Nat) : State :=
  let b := s.blockName d r c
  let s1 := (s.updNote r.path r.tag fun n => { n with burst := burst, block := some b }).updReq d r.path r.tag
    fun x => { x with outcome := .recovered }
  ((s1.setWalk none).cmdCentre d).report d c.phys.track recoveredWeight

/-- The end of the sector of a block's first read (R78, R80, R83, R93, R96, R99). -/
def State.firstReadEnd (s : State) (d : Drive) (r : Request) (c : CurBlock) (met : Bool) (y : Yield) : State :=
  let o := outcomeOf met y.check
  let s1 := s.report d c.phys.track (firstReadWeight o)
  match o with
  | .clean => s1.fitBlock d r c (readBytes y)
  | .correctable =>
    let b := s.blockName d r c
    let s2 := (s1.updNote r.path r.tag fun n =>
      { n with burst := burstOf met y.check, block := some b }).updReq d r.path r.tag
      fun x => { x with outcome := if x.outcome = .none then .corrected else x.outcome }
    s2.fitBlock d r c (readBytes y)
  | .damaged => s1.lostBlock d r c true
  | _ => s1.startWalk d r c .readBlock

/-- The end of the sector of a reread (R97–R99, R101). -/
def State.rereadEnd (s : State) (d : Drive) (r : Request) (c : CurBlock) (met : Bool) (y : Yield) : State :=
  match s.walk with
  | none => s
  | some w =>
    let o := outcomeOf met y.check
    match o with
    | .clean => (s.recovered d r c 0).fitBlock d r c (readBytes y)
    | .correctable => (s.recovered d r c (burstOf met y.check)).fitBlock d r c (readBytes y)
    | .damaged => s.lostBlock d r c true
    | .uncorrectable =>
      (s.updNote r.path r.tag fun n => { n with burst := burstOf met y.check }).rereadFailed d r c w
    | .mismatch => s.rereadFailed d r c w

/-- The block has been written: what went out on the data lines, and the offer to relocation control (R82). -/
def State.wroteBlock (s : State) (d : Drive) (ph : Addr) (logical : Track) (bytes : List Byte) : State :=
  (s.setLastWrite (some ⟨d, ph, none, bytes, .computed⟩)).offerWrite d logical ph.sec bytes

/-- The end of the sector of a completed write (R82, R83, R100). -/
def State.writeEnd (s : State) (d : Drive) (r : Request) (c : CurBlock) (logical : Track) (bytes : List Byte) :
    State :=
  let s1 := (s.wroteBlock d c.phys logical bytes).blockDone d r.path r.tag
  let s2 := s1.setEngine { s1.engine.emptyBlock c.block with merge := .none }
  let s3 := if s2.walk.isSome then s2.recovered d r c 0 else s2
  s3.afterBlock d r c

/-- The end of the sector of a write withheld because its mark failed (R96, R100). -/
def State.markFailEnd (s : State) (d : Drive) (r : Request) (c : CurBlock) : State :=
  match s.walk with
  | none => s.startWalk d r c .writeMark
  | some w => s.rereadFailed d r c w

/-! ## The end of a sector in hand -/

/-- The relocation's or the scan's sector has been read (R121, R127, R137). -/
def State.passReadEnd (s : State) (d : Drive) (h : Hand) (y : Yield) : State :=
  let o := outcomeOf h.met y.check
  match s.engine.holder with
  | some (.scan _) => s.setScan d { s.scanOf d with results := (s.scanOf d).results ++ [o] }
  | _ =>
    let bytes := if o = .correctable then readBytes y else block512 y.data
    s.setEngine { s.engine with results := s.engine.results ++ [⟨h.phys.sec, o, bytes⟩] }

/-- A sector of the write revolution is written; after the 32nd the verify revolution follows (R126, R127). -/
def State.passWriteEnd (s : State) (out : WriteOut) : State :=
  let s1 := s.setLastWrite (some out)
  if s1.engine.begun = 32 then
    (s1.updReloc fun r => { r with rev := .verify }).setEngine { s1.engine with begun := 0, results := [] }
  else s1

/-- The CHECK sector has passed: the write revolution begins at the next pulse (R125). -/
def State.checkEnd (s : State) : State :=
  s.updReloc fun r => { r with rev := .write }

/-- The sector in hand ends while a stop waits for it (R22, R89, R90, R158): a write completes and is offered,
a read is discarded, the engine is released and the drive enters READY. A block walk ended when the stop began, and the
write of a WRITE MARK walk that completes here is not reported RECOVERED (DESIGN CHOICE; log entry 50). -/
def State.stopEnd (s : State) (h : Hand) : State :=
  let s1 :=
    match h.op with
    | .write logical bytes => s.wroteBlock h.drive h.phys logical bytes
    | .passWrite out => s.setLastWrite (some out)
    | _ => s
  match s.engine.stop with
  | .ending code =>
    match s1.serving h.drive with
    | some r =>
      let r' : Request :=
        match h.op with
        | .write _ _ => { r with blocksDone := r.blocksDone + 1 }
        | _ => r
      (s1.endWith h.drive code r').enterReady h.drive
    | none => (s1.releaseEngine).enterReady h.drive
  | _ => (s1.releaseEngine).enterReady h.drive

/-- The sector in hand ends: its gate drops and its outcome is dealt with. -/
def State.endSector (s : State) (h : Hand) (y : Yield) : State :=
  let s0 := (s.dropGate h.drive).setEngine { s.engine with hand := none }
  if s0.engine.stop ≠ .none then s0.stopEnd h
  else
    match h.op with
    | .passRead => s0.passReadEnd h.drive h y
    | .passWrite out => s0.passWriteEnd out
    | .check => s0.checkEnd
    | op =>
      match s0.serving h.drive, s0.engine.current with
      | some r, some c =>
        match op with
        | .firstRead => s0.firstReadEnd h.drive r c h.met y
        | .reread => s0.rereadEnd h.drive r c h.met y
        | .write logical bytes => s0.writeEnd h.drive r c logical bytes
        | _ => s0.markFailEnd h.drive r c
      | _, _ => s0

end Sys2Proof.Machine
end

