-- ==== Sys2Proof/Machine/Drive.lean ====
section
/-! DEFINITION. The commands of the drive lines: power-on, online, the spin check, index and sector pulses, seek-complete, the seek limit, the fault line and the end of a sector (chapter 1, R69, R72, R75). -/

namespace Sys2Proof.Machine

/-- What a command answers. -/
abbrev Result := Host.Outcome State Fault Refusal

/-! ## Power-on reset -/

/-- A drive's side at the end of power-on reset: offset NONE, strobe NORMAL (R2); the rest is the drive's own
(log entry 7). -/
def DriveSide.atPowerOn (x : DriveSide) : DriveSide := { x with offset := .none, strobe := .normal }

/-- Power-on reset sets every part of the director to its after-power-on value (R44, R68, R94, R110, R133, R134,
R142, R153, R159, R178). The lines and settings of the drives stay, and so do the waiting commands and
the count of the free choices, which are the model's own. -/
def execPowerOnReset (s : State) : Result :=
  .next { State.reset with
    side := ⟨s.side.v0.atPowerOn, s.side.v1.atPowerOn, s.side.v2.atPowerOn, s.side.v3.atPowerOn,
      s.side.v4.atPowerOn, s.side.v5.atPowerOn, s.side.v6.atPowerOn, s.side.v7.atPowerOn⟩
    choices := s.choices
    pending := s.pending }

/-! ## Online line -/

/-- ONLINE_RISE (R6): the line is high; an OFFLINE drive with a non-empty profile enters SPIN CHECK. -/
def execOnlineRise (d : Drive) (s : State) : Result :=
  .next ((s.setSide d { s.sideOf d with onlineLine := true }).trySpinCheck d)

/-- ONLINE_FALL (R21). -/
def execOnlineFall (d : Drive) (s : State) : Result :=
  let s0 := s.setSide d { s.sideOf d with onlineLine := false }
  if (s.monOf d).state.online then .next (s0.enterOffline d).settle else .next s0

/-! ## Spin check (R7, R8) -/

/-- The pulse count a gate opens with: the pulse in progress counts (R7). -/
def gateStart (high : Bool) : Nat := if high then 1 else 0

/-- A count that passes (R8). -/
def gatePass (n : Nat) : Bool := decide (Config.gateLow ≤ n ∧ n ≤ Config.gateHigh)

/-- The gate that closes with this monitor record completes the spin check (R8). -/
def Monitor.completes (m : Monitor) : Bool := gatePass m.gatePulses && m.lastGatePassed

/-- A gate is open in a spin check. -/
def Monitor.gateRuns (m : Monitor) : Bool := decide (m.state = .spinCheck) && m.gateOpen

/-- The record after the gate that closes is judged: its tallies and last gate passed (R8). -/
def Monitor.judged (m : Monitor) : Monitor :=
  if gatePass m.gatePulses then { m with gatePasses := m.gatePasses + 1, lastGatePassed := true }
  else { m with gateFails := m.gateFails + 1, lastGatePassed := false }

/-- The gate that closes is the 30th and does not complete the spin check (R8). -/
def Monitor.givesUp (m : Monitor) : Bool :=
  m.gateRuns && !m.completes && decide (Config.gateLimit ≤ m.gatePasses + m.gateFails + 1)

/-- The open gate closes (R8). -/
def State.closeGate (s : State) (d : Drive) (high : Bool) : State :=
  let m := s.monOf d
  if m.gateRuns then
    if m.completes then
      (s.setMon d { m.judged with gateOpen := false }).startRecal d .spinCheck m.markCheck
    else if m.givesUp then (s.setMon d m.judged).enterFaulted d .speed
    else s.setMon d { m.judged with gatePulses := gateStart high }
  else s

/-- GATE_OPEN (R7): the first tick after entry to SPIN CHECK opens the first gate. -/
def execGateOpen (d : Drive) (high : Bool) (s : State) : Result :=
  let m := s.monOf d
  if m.state = .spinCheck ∧ m.gateOpen = false then
    .next (s.setMon d { m with gateOpen := true, gatePulses := gateStart high })
  else .next s

/-- GATE_CLOSE (R8). -/
def execGateClose (d : Drive) (high : Bool) (s : State) : Result := .next (s.closeGate d high).settle

/-- SPIN_CHECK_GIVE_UP (R8): the gate's close that is the 30th and completes nothing. -/
def execSpinCheckGiveUp (d : Drive) (high : Bool) (s : State) : Result :=
  if (s.monOf d).givesUp then .next (s.closeGate d high).settle else .next s

/-! ## Index pulse (R10, R11) -/

/-- A pass revolution with an index mismatch is void: the engine is released, the results are discarded, the
pass is offered again (R72, R121, R125, R137). The pass's block in hand is not finished: its gate drops and it leaves the
engine in the step of the mismatch, a block that a COMMIT is writing included. R72 releases the engine at the mismatch,
where R11 has the engine finish the block in hand (DESIGN CHOICE; log entry 48). -/
def State.voidPass (s : State) (d : Drive) (w : Work) : State :=
  let s1 :=
    match w with
    | .scan _ => s.setScan d { s.scanOf d with phase := .candidate, results := [] }
    | _ => (s.updReloc fun r => { r with rev := .none }).keepReread
  (((s1.clearEngineOf d).setDriveState d .orienting)).offer w

/-- The request in service on an ORIENTING or TRANSFERRING drive misses at an index mismatch (R11, R75, R102). One whose
transfer an EXTENTS load is stopping takes no miss: it has no next block to wait for, and R158 ends it at its block
boundary, though Table 4-2 counts an index mismatch while RUNNING (DESIGN CHOICE; log entry 47). One whose block in hand
is its last does miss, and may end STALLED, by that table: R11 counts the wait for the next block, and it has none (DESIGN
CHOICE; log entry 62). -/
def State.indexMisses (s : State) (d : Drive) : Bool :=
  match s.serving d with
  | some r =>
    match (s.monOf d).state with
    | .orienting => r.order.transfers
    | .transferring =>
      s.holds d r.path r.tag && decide (s.engine.phase = .running) && decide (s.engine.stop = .none)
    | _ => false
  | none => false

/-- A recall being offered for the drive's request is withdrawn (R74). -/
def State.withdrawRecall (s : State) (d : Drive) (r : Request) : State :=
  if s.holds d r.path r.tag ∧ s.engine.phase = .recalling then s.detach d r.path r.tag else s

/-- An index mismatch whose count stays at 1 (R11). R11 has a miss reported for a pass that is being oriented as well; no
rule gives a pass a miss count, and nothing is counted for it (DEDUCED; log entry 15). -/
def State.indexMissed (s : State) (d : Drive) : State :=
  if s.indexMisses d then
    match s.serving d with
    | some r => (s.withdrawRecall d r).takeMiss d
    | none => s
  else
    match s.engine.holder with
    | some (.reloc e) =>
      if e = d ∧ s.engine.stop = .none then s.voidPass d (.reloc d) else s
    | some (.scan e) =>
      if e = d ∧ s.engine.stop = .none then s.voidPass d (.scan d) else s
    | _ => s

/-- The index pulse is a mismatch on an online drive that is not FAULTED (R11). -/
def Monitor.mismatches (m : Monitor) : Bool :=
  m.state.online && decide (m.state ≠ .faulted) && decide (m.sector ≠ 31)

/-- The index pulse brings the mismatch count to 2 (R11). -/
def Monitor.clockFaults (m : Monitor) : Bool := m.mismatches && decide (2 ≤ m.mismatch + 1)

/-- The monitor record after an index pulse: counter 0, index taken, the count of R11. -/
def Monitor.indexed (m : Monitor) : Monitor :=
  { m with sector := 0, indexTaken := true, mismatch := if m.sector = 31 then 0 else min 2 (m.mismatch + 1) }

/-- An index pulse is taken (R10, R11, R135). -/
def State.indexPulse (s : State) (d : Drive) : State :=
  let m := s.monOf d
  if m.state.online then
    let s0 :=
      if s.idle d then s.setScan d { s.scanOf d with idle := sat255 ((s.scanOf d).idle + 1) } else s
    let s1 := s0.setMon d m.indexed
    if m.clockFaults then s1.enterFaulted d .clock
    else if m.mismatches then s1.indexMissed d
    else s1
  else s

/-- INDEX_PULSE (R10). -/
def execIndexPulse (d : Drive) (s : State) : Result := .next (s.indexPulse d).settle

/-- CLOCK_FAULT (R11): the index pulse that brings the mismatch count to 2. -/
def execClockFault (d : Drive) (s : State) : Result :=
  if (s.monOf d).clockFaults then .next (s.indexPulse d).settle else .next s

/-! ## Sector pulse (R10, R69, R74, R75, R78) -/

/-- The counter after a sector pulse (R10). -/
def Monitor.nextSector (m : Monitor) : Nat := if m.indexTaken then m.sector else (m.sector + 1) % 32

/-- The monitor record after a sector pulse (R7, R10). -/
def Monitor.pulsed (m : Monitor) : Monitor :=
  { m with
    sector := m.nextSector, indexTaken := false
    gatePulses := if m.gateRuns then sat255 (m.gatePulses + 1) else m.gatePulses }

/-- The target sector of a request's next block (R69). -/
def Request.target (g : Geometry) (r : Request) : Nat := r.next g % 32

/-- The sector of the recall point, (t − M) mod 32 (R69). -/
def recallSector (t margin : Nat) : Nat := (t + 32 - margin) % 32

/-- The work of a drive's request. -/
def Request.work (d : Drive) (r : Request) : Work := .host d r.path r.tag

/-- The request is recalled, or a candidate. -/
def State.inWindow (s : State) (d : Drive) (r : Request) : Bool :=
  s.holds d r.path r.tag || decide (r.work d ∈ s.engine.candidates)

/-- The request of an ORIENTING drive misses at the pulse that begins sector `c`: at its target sector while a
candidate or recalled, at its recall point when its path is RECEIVING (R70, R74, R75). -/
def State.orientMisses (s : State) (d : Drive) (r : Request) (c : Nat) : Bool :=
  r.order.transfers &&
    (if c = r.target (s.geom d) then s.inWindow d r
     else decide (c = recallSector (r.target (s.geom d)) s.policy.margin) && !s.inWindow d r &&
      (s.port r.path).link == .receiving)

/-- A sector pulse on an ORIENTING drive (R69, R70, R74, R75). -/
def State.orientPulse (s : State) (d : Drive) (c : Nat) : State :=
  match s.serving d with
  | none => s
  | some r =>
    if s.orientMisses d r c then ((s.withdrawRecall d r).unoffer (r.work d)).takeMiss d
    else if r.order.transfers ∧ c ≠ r.target (s.geom d) ∧
        c = recallSector (r.target (s.geom d)) s.policy.margin ∧ !s.inWindow d r then
      s.offer (r.work d)
    else s

/-- The engine is ready to take the sector that begins: none in hand, no stop. -/
def State.handFree (s : State) : Bool := s.engine.hand.isNone && s.engine.stop == .none

/-- A sector pulse on a TRANSFERRING drive (R72, R78, R82). -/
def State.transferPulse (s : State) (d : Drive) (c : Nat) (mark : Mark) : State :=
  if s.handFree then
    match s.engine.holder with
    | some (.host e p t) =>
      if e = d ∧ s.engine.phase = .running then
        match s.req? d p t, s.engine.current with
        | some r, some cur => if cur.phys.sec = c then s.hostSector d r cur mark else s
        | _, _ => s
      else s
    | some (.reloc e) =>
      if e = d then
        match s.reloc with
        | some r => s.relocSector d r c mark
        | none => s
      else s
    | some (.scan e) => if e = d then s.scanSector d c mark else s
    | none => s
  else s

/-- A sector pulse is taken (R7, R10). -/
def State.sectorPulse (s : State) (d : Drive) (mark : Mark) : State :=
  let m := s.monOf d
  if m.state.online then
    let s1 := s.setMon d m.pulsed
    match m.state with
    | .orienting => s1.orientPulse d m.nextSector
    | .transferring => s1.transferPulse d m.nextSector mark
    | _ => s1
  else s

/-- SECTOR_PULSE (R10). -/
def execSectorPulse (d : Drive) (mark : Mark) (s : State) : Result := .next (s.sectorPulse d mark).settle

/-- The request in service on the drive misses at this sector pulse (R75, Table 4-2). -/
def State.pulseMisses (s : State) (d : Drive) : Bool :=
  let c := (s.monOf d).nextSector
  match (s.monOf d).state, s.serving d with
  | .orienting, some r => s.orientMisses d r c
  | .transferring, some r =>
    s.handFree && s.holds d r.path r.tag && s.engine.phase == .running &&
      (match s.engine.current with
       | some cur => decide (cur.phys.sec = c) && s.slotMiss r cur
       | none => false)
  | _, _ => false

/-! ## Seek-complete and the seek limit (R9, R13, R14–R18, R22, R23) -/

/-- The active relocation holds this drive. -/
def State.relocHolds (s : State) (d : Drive) : Bool :=
  match s.reloc with
  | some r => decide (r.drive = d) && r.holds
  | none => false

/-- The arrival of a seek, by the work in service (R13, R16, R22, R23, R138). -/
def State.seekArrived (s : State) (d : Drive) : State :=
  match s.serving d with
  | some r =>
    if r.order = .position then (s.endWith d .normal r).enterReady d else s.setDriveState d .orienting
  | none =>
    if s.relocHolds d then (s.setDriveState d .orienting).offer (.reloc d)
    else if (s.scanOf d).phase ≠ .none then
      ((s.setDriveState d .orienting).setScan d { s.scanOf d with phase := .candidate }).offer (.scan d)
    else s.enterReady d

/-- The RECALIBRATE in service, if it is still there, ends NORMAL (R17, R18, R23). -/
def State.endServing (s : State) (d : Drive) : State :=
  match s.serving d with
  | some r => s.endWith d .normal r
  | none => s

/-- The arrival of a recalibrate, by its purpose. A reseek whose target is cylinder 0, where the recalibrate has brought
the drive already, issues its seek and enters SEEKING as R14 says, where R12 would issue none and go to ORIENTING (DESIGN
CHOICE; log entry 61). -/
def State.recalArrived (s : State) (d : Drive) : State :=
  match (s.monOf d).recal with
  | .spinCheck => ((s.cmdHead d 0).enterReady d).raiseAll ⟨.driveReady, d, .none⟩
  | .order => ((s.cmdHead d 0).endServing d).enterReady d
  | .orderFaulted => (((s.cmdHead d 0).endServing d).enterReady d).raiseAll ⟨.driveReady, d, .none⟩
  | .reseek =>
    let m := s.monOf d
    ((s.cmdHead d m.head).cmdSeek d m.target).setMon d
      { m with state := .seeking, cylinder := m.target, seekTimer := 0 }
  | .plain => s.enterReady d

/-- The actuator's motion is over, and the cylinder is this. -/
def State.arrive (s : State) (d : Drive) (cyl : Nat) : State :=
  (s.setSide d { s.sideOf d with motion := .none }).setMon d { s.monOf d with cylinder := cyl }

/-- SEEK_COMPLETE (R13). -/
def execSeekComplete (d : Drive) (s : State) : Result :=
  match (s.monOf d).state with
  | .seeking => .next ((s.arrive d (s.monOf d).target).seekArrived d).settle
  | .recalibrating => .next ((s.arrive d 0).recalArrived d).settle
  | _ => .next s

/-- A drive whose seek timer runs: SEEKING or RECALIBRATING (R13). -/
def DriveState.timed (x : DriveState) : Bool := x == .seeking || x == .recalibrating

/-- SEEK_LIMIT (R13): the seek timer reaches 160. -/
def execSeekLimit (d : Drive) (s : State) : Result :=
  if (s.monOf d).state.timed then
    .next ((s.setMon d { s.monOf d with seekTimer := Config.seekLimit }).enterFaulted d .seek).settle
  else .next s

/-! ## Fault line (R19) -/

/-- FAULT_RISE (R19). -/
def execFaultRise (d : Drive) (s : State) : Result :=
  let s0 := s.setSide d { s.sideOf d with faultLine := true }
  let st := (s.monOf d).state
  if st.online ∧ st ≠ .faulted then
    .next (s0.enterFaulted d (if s.writeGateOn d then .write else .line)).settle
  else .next s0

/-! ## The end of a sector (R78, R82) -/

/-- SECTOR_END: the sector in hand on this drive ends. -/
def execSectorEnd (d : Drive) (y : Yield) (s : State) : Result :=
  match s.engine.hand with
  | some h => if h.drive = d then .next (s.endSector h y).settle else .next s
  | none => .next s

/-! ## The nominal sector period (R13; log entry 4) -/

/-- One drive's seek timer after a nominal sector period. -/
def Monitor.ticked (m : Monitor) : Monitor :=
  if m.state.timed then { m with seekTimer := min Config.seekLimit (m.seekTimer + 1) } else m

/-- The seek timer reads its limit while it runs: the drive faults (R13). -/
def Monitor.overdue (m : Monitor) : Bool := m.state.timed && decide (Config.seekLimit ≤ m.seekTimer)

/-- The seek timers of the drives that are SEEKING or RECALIBRATING advance by 1 (R13). -/
def State.tickAll (s : State) : State :=
  { s with mon := ⟨s.mon.v0.ticked, s.mon.v1.ticked, s.mon.v2.ticked, s.mon.v3.ticked, s.mon.v4.ticked,
      s.mon.v5.ticked, s.mon.v6.ticked, s.mon.v7.ticked⟩ }

/-- A drive whose running seek timer reads the limit enters FAULTED with cause SEEK (R13). -/
def State.limitSeek (s : State) (d : Drive) : State := if (s.monOf d).overdue then s.enterFaulted d .seek else s

/-- A nominal sector period of the director's own timing passes: the running seek timers advance, and each drive whose
timer reaches 160 enters FAULTED, in ascending order of drive (R13). -/
def State.sectorPeriod (s : State) : State :=
  let s1 := s.tickAll
  if allDrives.any (fun d => (s1.monOf d).overdue) then (allDrives.foldl State.limitSeek s1).settle else s1

end Sys2Proof.Machine
end

