-- ==== Sys2Proof/Machine/Queue.lean ====
section
/-! DEFINITION. The access scheduler: access cost, selection, aging and service start (chapter 3, R16, R17, R150, R151). -/

namespace Sys2Proof.Machine

/-! ## The access cost (R53–R57) -/

/-- The distance |c1 − c0| (R54). -/
def distance (c0 c1 : Nat) : Nat := if c0 ≤ c1 then c1 - c0 else c0 - c1

/-- The seek time of a distance above 0: the first point whose bound is not below it, else the last point's time
(R54). -/
def profileTime (d : Nat) : List SeekPoint → Nat
  | [] => 0
  | [p] => p.time
  | p :: q :: rest => if d ≤ p.bound then p.time else profileTime d (q :: rest)

/-- The seek time (R54). -/
def seekTime (profile : List SeekPoint) (d : Nat) : Nat := if d = 0 then 0 else profileTime d profile

/-- The rotational term, ((t − p1 − M) mod 32) + M (R55). -/
def rotation (t p1 m : Nat) : Nat := (((t : Int) - p1 - m) % 32).toNat + m

/-- The access cost a = s + r, with p1 = (p0 + s) mod 32 (R55, R56). -/
def accessCost (profile : List SeekPoint) (c0 c1 p0 t m : Nat) : Nat :=
  let s := seekTime profile (distance c0 c1)
  s + rotation t ((p0 + s) % 32) m

/-- The effective cost: a − g×W, not below 0 (R56). -/
def effectiveCost (a g w : Nat) : Nat := a - g * w

/-- The effective cost of a waiting entry at this moment (R53, R56, R57). -/
def State.costOf (s : State) (d : Drive) (r : Request) : Nat :=
  if r.order.transfers then
    let g := s.geom d
    let ph := physOf s.map g d r.direct (r.next g)
    effectiveCost
      (accessCost (s.profiles.get g.profile) (s.monOf d).cylinder ph.cyl (s.monOf d).sector ph.sec s.policy.margin)
      r.age s.policy.agingWeight
  else 0

/-! ## Selection (R58–R60) -/

/-- The earliest of the smallest, by a cost. -/
def earliestMin {α : Type} (f : α → Nat) : List α → Option α
  | [] => none
  | x :: xs =>
    match earliestMin f xs with
    | none => some x
    | some y => if f x ≤ f y then some x else some y

/-- The waiting entries, in arrival order. -/
def waiting (q : List Request) : List Request := q.filter fun r => !r.inService

/-- The entry a selection takes: the earliest overdue one, else the earliest of least effective cost (R58). -/
def State.choose (s : State) (d : Drive) : Option Request :=
  let w := waiting (s.queue d)
  match w.find? fun r => decide (Config.overdueAge ≤ r.age) with
  | some r => some r
  | none => earliestMin (s.costOf d) w

/-- The selected entry is IN SERVICE with resume from continuation; the other waiting entries age (R59, R60). -/
def selectedQueue (q : List Request) (p : Path) (t : Tag) : List Request :=
  q.map fun r =>
    if r.is p t then { r with inService := true, resume := r.continuation, continuation := false }
    else if r.inService then r
    else { r with age := min Config.overdueAge (r.age + 1) }

/-- The service of a RELEASE: a member of the holding group makes the drive UNRESERVED (R151). -/
def State.serveRelease (s : State) (d : Drive) (r : Request) : State :=
  let s1 :=
    match s.reservedBy d with
    | some g => if s.outside r.path g then s else s.releaseDrive d none
    | none => s
  s1.endWith d .normal r

/-- The physical track of the request's next block (R42). -/
def State.serviceTrack (s : State) (d : Drive) (r : Request) : Track :=
  (physOf s.map (s.geom d) d r.direct (r.next (s.geom d))).track

/-- The service of a POSITION (R16): it ends at once where no seek is needed. -/
def State.servePosition (s : State) (d : Drive) (r : Request) : State :=
  let s1 := s.askSeek d (s.serviceTrack d r)
  if (s1.monOf d).state = .orienting then (s1.endWith d .normal r).enterReady d else s1

/-- Service start of a selected entry (R60, Table 3-7), after the reservation check of R150. -/
def State.startService (s : State) (d : Drive) (r : Request) : State :=
  if s.reservedAway d r.path then s.ousted d r
  else
    match r.order with
    | .position => s.servePosition d r
    | .recalibrate => s.startRecal d .order .none
    | .reserve => (s.takeReservation d (s.group r.path)).endWith d .normal r
    | .release => s.serveRelease d r
    | _ => s.askSeek d (s.serviceTrack d r)

/-- One selection for a free drive (R51, R58–R60). -/
def State.select (s : State) (d : Drive) : State :=
  match s.choose d with
  | none => s
  | some r =>
    let s1 := (s.setQueue d (selectedQueue (s.queue d) r.path r.tag)).clearIdle d
    s1.startService d r

/-- SELECTION (R58). -/
def execSelection (d : Drive) (s : State) : Result :=
  if s.freeDrive d then .next (s.select d).settle else .next s

end Sys2Proof.Machine
end

