-- ==== Sys2Proof/Machine/Orders.lean ====
section
/-! DEFINITION. The order decoder: its arbiter, the acceptance checks, the queued orders' entry, and the immediate orders but for tables and resets (chapters 3, 8 and 9, R18, R117, R138). -/

namespace Sys2Proof.Machine

/-! ## The decoder's turn (R162) -/

/-- The port holds an order frame that has ended; RESET PATH is taken by its port, not by the decoder (R168). That
is so of every frame of code 15H, one of a wrong length or with the direct flag included, and RESET_PATH tests no frame:
R168's "never refused" over R163's BAD ORDER (DESIGN CHOICE; log entry 37). -/
def State.holdsOrder (s : State) (ended : List Path) (p : Path) : Bool :=
  decide (p ∈ ended) && (s.port p).link == .receiving &&
    (match (s.port p).rx with
     | some f => decide (rowOf f ≠ .resetPath)
     | none => false)

/-- The host paths in rotation, beginning after the one taken last (R162). -/
def rotationAfter : Path → List Path
  | .a => [.b, .c, .d, .a]
  | .b => [.c, .d, .a, .b]
  | .c => [.d, .a, .b, .c]
  | _ => [.a, .b, .c, .d]

/-- The port whose order the decoder takes: S if it holds one, else the first host path in rotation (R162). -/
def State.arbiter (s : State) (ended : List Path) : Option Path :=
  (Path.s :: rotationAfter s.lastHost).find? fun p => s.holdsOrder ended p

/-- The record of the last host path taken (R162). -/
def State.noteTaken (s : State) (p : Path) : State := if p = .s then s else s.setLastHost p

/-- The order frame a port holds. -/
def State.heldFrame (s : State) (p : Path) : List Byte :=
  match (s.port p).rx with
  | some f => f
  | none => []

/-- The decoder's turn takes an order of this row and carries it out with `f`. When the arbiter's choice is no
order of this row the turn is another row's, and this one leaves the state as it is (log entry 10). -/
def State.decoderTurn (s : State) (row : OrderRow) (ended : List Path)
    (f : State → Path → List Byte → State) : State :=
  match s.arbiter ended with
  | some p => if rowOf (s.heldFrame p) = row then f (s.noteTaken p) p (s.heldFrame p) else s
  | none => s

/-! ## Answers (R164, R165) -/

/-- The drive that an order names in its drive byte (R107, Table 9-4); a frame too short to have that byte names none. An
unknown order code has no layout, so its frame names none (DESIGN CHOICE; log entry 51). A LOAD TABLE or FETCH TABLE names
a table, a first entry and a count (R171), and a CLEAR NOTICES a mask of drives: their answers carry no drive, though an
entry of GEOMETRY, SPARE MAP or DRIVE STATUS is a drive position and R176 has a SPARE MAP load name one (DESIGN CHOICE; log
entry 59). -/
def namedDrive (f : List Byte) : Option Drive :=
  match rowOf f with
  | .queued _ => frameDrive f
  | .assignAlternate => frameDrive f
  | .forceRelease => frameDrive f
  | _ => none

/-- The tag a refusal carries: the tag a queued order named, none for an immediate order (R165), and none for an unknown
order code, of which Table 9-4 does not speak (DESIGN CHOICE; log entry 51). -/
def refusalTag (f : List Byte) : Option Tag :=
  match rowOf f with
  | .queued _ => if 2 < f.length then some (frameTag f) else none
  | _ => none

/-- The ending that answers an immediate order or a refused order. -/
def answerOf (f : List Byte) (code : Code) (refusal : Bool) (entry : Option Nat) : Ending where
  tag := if refusal then refusalTag f else none
  code := code
  refusal := refusal
  reserved := false
  drive := namedDrive f
  blocksDone := 0
  block := none
  entry := entry

/-- The answer of an immediate order that was carried out. -/
def State.answer (s : State) (p : Path) (f : List Byte) (code : Code) : State :=
  s.send p [.ending (answerOf f code false none)]

/-- The answer of a refused order. -/
def State.refuse (s : State) (p : Path) (f : List Byte) (code : Code) : State :=
  s.send p [.ending (answerOf f code true none)]

/-! ## Acceptance checks (R163, Table 9-2) -/

/-- The paths of Table 9-3's last four rows. -/
def serviceOnly : OrderRow → Bool
  | .loadTable => true
  | .assignAlternate => true
  | .forceRelease => true
  | .directorReset => true
  | _ => false

/-- The order takes the direct flag (R28). -/
def takesDirect : OrderRow → Bool
  | .queued .read => true
  | .queued .verify => true
  | _ => false

/-- READ, WRITE and VERIFY: their field ranges (R27). -/
def spanFieldsBad (f : List Byte) : Bool :=
  decide (1023 < wordAt f 4 ∨ 15 < byteAt f 6 ∨ 31 < byteAt f 7 ∨ frameCount f = 0 ∨ 256 < frameCount f ∨
    frameLast f = 0 ∨ 512 < frameLast f)

/-- A track's field ranges (R27; for ASSIGN ALTERNATE log entry 20). -/
def trackFieldsBad (f : List Byte) : Bool := decide (1023 < wordAt f 4 ∨ 15 < byteAt f 6)

/-- The fields of an order's own layout that lie outside their ranges (R27, R28, R144, R170, R171). -/
def fieldsBad (p : Path) (f : List Byte) : Bool :=
  match rowOf f with
  | .queued .read => spanFieldsBad f
  | .queued .write => spanFieldsBad f
  | .queued .verify => spanFieldsBad f
  | .queued .position => trackFieldsBad f
  | .queued _ => false
  | .setGroup => decide (15 < byteAt f 12 ∨ (p = .s ∧ byteAt f 12 ≠ 0))
  | .loadTable => decide (byteAt f 12 = 0 ∨ 8 < byteAt f 12)
  | .assignAlternate => trackFieldsBad f
  | .unknown => true
  | _ => false

/-- A queued order's byte 2 has its other bits 0 (Table 9-8; log entry 22). -/
def flagsBad (f : List Byte) : Bool :=
  match rowOf f with
  | .queued _ => !frameFlagsClear f
  | _ => false

/-- The order names a drive, and byte 3 is no drive position. -/
def driveBad (f : List Byte) : Bool :=
  match rowOf f with
  | .queued _ => (frameDrive f).isNone
  | .assignAlternate => (frameDrive f).isNone
  | .forceRelease => (frameDrive f).isNone
  | _ => false

/-- Step 1, BAD ORDER. -/
def badOrder (p : Path) (f : List Byte) : Bool :=
  !frameShape f || driveBad f || fieldsBad p f || flagsBad f || (frameDirect f && !takesDirect (rowOf f))

/-- Step 2, NOT PERMITTED. -/
def notPermitted (p : Path) (f : List Byte) : Bool :=
  decide (p ≠ .s) && (serviceOnly (rowOf f) || frameDirect f)

/-- Steps 1 and 2 for an order that has no further steps. -/
def firstChecks (p : Path) (f : List Byte) : Option Code :=
  if badOrder p f then some .badOrder else if notPermitted p f then some .notPermitted else none

/-- The volume test of a span of `n` blocks (R27), or over the whole drive with the direct flag (R28). -/
def outsideVolume (g : Geometry) (direct : Bool) (a : Addr) (n : Nat) : Bool :=
  let cyls := if direct then g.cyls else g.hostCyls
  decide (g.heads ≤ a.head ∨ cyls ≤ a.cyl ∨ cyls * g.heads * 32 - 1 < g.blockOf a + n - 1)

/-- An entry in use on the drive shares a cylinder with the span (R157). -/
def Extent.touches (e : Extent) (d : Drive) (lo hi : Nat) : Bool :=
  e.inUse && decide (e.drive = d ∧ e.low ≤ hi ∧ lo ≤ e.high)

/-- The extent test of a READ, WRITE or VERIFY of group `p` over a span of cylinders (R157). -/
def extentTest (xs : List Extent) (d : Drive) (o : QOrder) (p lo hi : Nat) : Option Code :=
  if xs.any fun e => e.touches d lo hi && decide (e.cls = .fenced ∧ e.group ≠ p) then some .fenced
  else if o = .write ∧
      xs.any fun e => e.touches d lo hi && decide (e.cls = .readOnly ∧ (e.group = 0 ∨ p ≠ e.group)) then
    some .readOnly
  else none

/-- Step 7: the extent test at acceptance, for READ, WRITE and VERIFY from host paths. -/
def State.extentRefusal (s : State) (p : Path) (d : Drive) (o : QOrder) (f : List Byte) : Option Code :=
  if p ≠ .s ∧ o.transfers then
    let g := s.geom d
    let first := g.blockOf (frameAddr f)
    extentTest s.extents d o (s.group p) (g.addrOf first).cyl (g.addrOf (first + frameCount f - 1)).cyl
  else none

/-- The address a queued order's request holds (Table 3-2). -/
def requestAddr (o : QOrder) (f : List Byte) : Addr :=
  if o.transfers then frameAddr f
  else if o = .position then ⟨wordAt f 4, byteAt f 6, 0⟩
  else ⟨0, 0, 0⟩

/-- Step 6 applies to READ, WRITE, VERIFY and POSITION (R27, R28). -/
def State.volumeBad (s : State) (d : Drive) (o : QOrder) (f : List Byte) : Bool :=
  if o.transfers then outsideVolume (s.geom d) (frameDirect f) (frameAddr f) (frameCount f)
  else if o = .position then outsideVolume (s.geom d) false (requestAddr o f) 1
  else false

/-- Step 5: the drive states in which an order other than RECALIBRATE is refused NOT READY (Table 1-4). -/
def DriveState.notReady : DriveState → Bool
  | .offline => true
  | .spinCheck => true
  | .faulted => true
  | _ => false

/-- The acceptance checks of a queued order for its drive, in the order of Table 9-2; none when it is accepted. -/
def State.acceptance (s : State) (p : Path) (d : Drive) (o : QOrder) (f : List Byte) : Option Code :=
  if badOrder p f then some .badOrder
  else if notPermitted p f then some .notPermitted
  else if (s.port p).tags.get (frameTag f) ≠ .free then some .tagInUse
  else if (s.monOf d).state = .absent then some .noDrive
  else if o ≠ .recalibrate ∧ (s.monOf d).state.notReady then some .notReady
  else if s.volumeBad d o f then some .outsideVolume
  else
    match s.extentRefusal p d o f with
    | some c => some c
    | none =>
      if s.reservedAway d p then some .reservedElsewhere
      else if Config.queueCapacity ≤ (s.queue d).length then some .queueFull
      else if o = .reserve ∧ (p = .s ∨ s.group p = 0) then some .noGroup
      else none

/-- A refusal at step 8 marks the path awaiting release, one at step 9 awaiting room (R48, R149, R163). -/
def State.markRefused (s : State) (p : Path) (d : Drive) (c : Code) : State :=
  match c with
  | .reservedElsewhere => s.markRelease p d
  | .queueFull => s.markRoom p d
  | _ => s

/-! ## Entry of a queued order (R46, R47, R18, R138) -/

/-- The request of an accepted order, at the "At entry" values of Table 3-2. -/
def requestOf (p : Path) (o : QOrder) (f : List Byte) : Request where
  path := p
  tag := frameTag f
  order := o
  addr := requestAddr o f
  count := if o.transfers then frameCount f else 0
  lastBytes := if o.transfers then frameLast f else 0
  direct := o.transfers && frameDirect f
  reserveIfClean := o == .read && frameReserve f
  age := 0
  missCount := 0
  continuation := false
  resume := false
  blocksDone := 0
  outcome := .none
  inService := false

/-- A scan pass on the drive is abandoned and the drive given back by its scan phase (R138, R139). After a GEOMETRY or
SPARE MAP load in phase SEEKING the drive goes on moving, is not idle meanwhile, and has its idle count of before when it
enters READY: R139 keeps the count, where R135 would start it from 0 (DESIGN CHOICE; log entry 38). A pass abandoned in
phase CANDIDATE or PASS before its first mark leaves the mark check as it stands, PENDING or RESEEK: R138 turns RESEEK
into PENDING in its SEEKING row and says nothing of it in these two (DESIGN CHOICE; log entry 54). -/
def State.abandonScan (s : State) (d : Drive) : State :=
  let s1 := s.setScan d { s.scanOf d with phase := .none, results := [] }
  match (s.scanOf d).phase with
  | .none => s
  | .seeking =>
    if (s.monOf d).state = .recalibrating then
      s1.setMon d { s1.monOf d with recal := .plain, markCheck := .none }
    else
      s1.setMarkCheck d (if (s.monOf d).markCheck = .none then .none else .pending)
  | .candidate => (s1.unoffer (.scan d)).enterReady d
  | .pass => (s1.clearEngineOf d).enterReady d

/-- The request enters the tail of its drive's queue, its tag slot becomes OUTSTANDING, the hold frame goes out,
the idle count becomes 0, and a scan pass is abandoned (R47, R135, R138, R159). -/
def State.enqueue (s : State) (p : Path) (d : Drive) (r : Request) : State :=
  let s1 := s.setQueue d (s.queue d ++ [r])
  let s2 := (s1.setTag p r.tag .outstanding).send p [.hold r.tag]
  (s2.clearIdle d).abandonScan d

/-- The RECALIBRATE that enters the queue of a FAULTED drive is served at once; one that enters that of an
OFFLINE drive ends DRIVE LOST (R18). -/
def State.recalEntered (s : State) (d : Drive) (r : Request) (gone : Bool) : State :=
  match (s.monOf d).state with
  | .faulted =>
    let s1 := (s.updReq d r.path r.tag fun x => { x with inService := true }).cmdFaultClear d gone
    let s2 := s1.setMon d { s1.monOf d with cause := .none, mismatch := 0 }
    if (s2.sideOf d).faultLine then
      ((s2.startRecal d .orderFaulted .none)).enterFaulted d .line
    else s2.startRecal d .orderFaulted .none
  | .offline => s.endWith d .driveLost r
  | _ => s

/-- A queued order taken by the decoder: refused, or entered in its drive's queue (R162, R163, R47). -/
def State.takeQueued (s : State) (o : QOrder) (gone : Bool) (p : Path) (f : List Byte) : State :=
  match frameDrive f with
  | none => s.refuse p f .badOrder
  | some d =>
    match s.acceptance p d o f with
    | some c => (s.markRefused p d c).refuse p f c
    | none =>
      let r := requestOf p o f
      let s1 := s.enqueue p d r
      if o = .recalibrate then s1.recalEntered d r gone else s1

/-- The decoder's turn on a queued order. -/
def State.queuedTurn (s : State) (o : QOrder) (gone : Bool) (ended : List Path) : Result :=
  .next (s.decoderTurn (.queued o) ended fun s p f => s.takeQueued o gone p f).settle

/-- READ (R47). -/
def execRead (ended : List Path) (s : State) : Result := s.queuedTurn .read false ended
/-- WRITE (R47). -/
def execWrite (ended : List Path) (s : State) : Result := s.queuedTurn .write false ended
/-- VERIFY (R47). -/
def execVerify (ended : List Path) (s : State) : Result := s.queuedTurn .verify false ended
/-- POSITION (R47). -/
def execPosition (ended : List Path) (s : State) : Result := s.queuedTurn .position false ended
/-- RESERVE (R47). -/
def execReserve (ended : List Path) (s : State) : Result := s.queuedTurn .reserve false ended
/-- RELEASE (R47). -/
def execRelease (ended : List Path) (s : State) : Result := s.queuedTurn .release false ended
/-- RECALIBRATE (R18, R47). -/
def execRecalibrate (ended : List Path) (gone : Bool) (s : State) : Result :=
  s.queuedTurn .recalibrate gone ended

/-! ## Immediate orders (R164) -/

/-- An immediate order with only steps 1 and 2 of the checks: refused, or carried out by `k`. -/
def State.immediate (s : State) (p : Path) (f : List Byte) (k : State → State) : State :=
  match firstChecks p f with
  | some c => s.refuse p f c
  | none => k s

/-- A tag slot of the path is in use (R144). -/
def State.tagsInUse (s : State) (p : Path) : Bool :=
  allTags.any fun t => (s.port p).tags.get t ≠ .free

/-- SET GROUP carried out (R144). -/
def State.doSetGroup (s : State) (p : Path) (f : List Byte) : State :=
  let g := byteAt f 12
  if p = .s then s.answer p f .normal
  else if s.tagsInUse p then s.answer p f .busy
  else if s.group p = g then s.answer p f .normal
  else ((s.setGroup p g).emptyGroup (s.group p)).answer p f .normal

/-- SET_GROUP (R144). -/
def execSetGroup (ended : List Path) (s : State) : Result :=
  .next (s.decoderTurn .setGroup ended fun s p f => s.immediate p f fun s => s.doSetGroup p f)

/-- SET_NOTICES (R166): the path's mask becomes the kinds named. -/
def execSetNotices (ended : List Path) (s : State) : Result :=
  .next (s.decoderTurn .setNotices ended fun s p f => s.immediate p f fun s =>
    (s.setPort p { s.port p with mask := f.getD 12 0 }).answer p f .normal)

/-- A CLEAR NOTICES with these masks names the member (R166, Table 9-8). -/
def Notice.named (n : Notice) (kinds drives : BitVec 8) : Bool :=
  n.kind.inMask kinds && drives.getLsbD n.drive.val

/-- CLEAR_NOTICES (R166): members whose kind and drive are both named leave the raw set. -/
def execClearNotices (ended : List Path) (s : State) : Result :=
  .next (s.decoderTurn .clearNotices ended fun s p f => s.immediate p f fun s =>
    (s.setPort p { s.port p with
      raw := (s.port p).raw.filter fun n => !n.named (f.getD 12 0) (f.getD 13 0) }).answer p f .normal)

/-- REPORT_CONDITION (R109): the record goes out in a data frame and becomes EMPTY. -/
def execReportCondition (ended : List Path) (s : State) : Result :=
  .next (s.decoderTurn .reportCondition ended fun s p f => s.immediate p f fun s =>
    (s.setPort p { s.port p with condition := ConditionRecord.empty }).send p
      [.data (s.port p).condition.bytes, .ending (answerOf f .normal false none)])

/-- ASSIGN ALTERNATE carried out: the home is queued, its entry takes the source ORDER, or the queue is full
(R117). -/
def State.doAssign (s : State) (p : Path) (f : List Byte) (d : Drive) : State :=
  let home : Track := ⟨wordAt f 4, byteAt f 6⟩
  if s.homeBusy d home then
    (s.setRelocQ (s.relocQ.map fun e =>
      if e.drive = d ∧ e.home = home then { e with source := .order } else e)).answer p f .normal
  else if Config.relocationCapacity ≤ s.relocQ.length then s.answer p f .busy
  else (s.setRelocQ (s.relocQ ++ [⟨d, home, .order⟩])).answer p f .normal

/-- ASSIGN_ALTERNATE (R117, R163). -/
def execAssignAlternate (ended : List Path) (s : State) : Result :=
  .next (s.decoderTurn .assignAlternate ended fun s p f => s.immediate p f fun s =>
    match frameDrive f with
    | none => s.refuse p f .badOrder
    | some d =>
      if (s.monOf d).state = .absent then s.refuse p f .noDrive
      else if !(s.geom d).inHost ⟨wordAt f 4, byteAt f 6⟩ then s.refuse p f .outsideVolume
      else s.doAssign p f d)

/-- FORCE_RELEASE (R152). -/
def execForceRelease (ended : List Path) (s : State) : Result :=
  .next (s.decoderTurn .forceRelease ended fun s p f => s.immediate p f fun s =>
    match frameDrive f with
    | none => s.refuse p f .badOrder
    | some d =>
      match s.reservedBy d with
      | some g => (s.releaseDrive d (some g)).answer p f .normal
      | none => s.answer p f .normal)

/-- UNKNOWN_ORDER_CODE (R163): the refusal BAD ORDER. -/
def execUnknownOrderCode (ended : List Path) (s : State) : Result :=
  .next (s.decoderTurn .unknown ended fun s p f => s.refuse p f .badOrder)

end Sys2Proof.Machine
end

