-- ==== Sys2Proof/Machine/Reset.lean ====
section
/-! DEFINITION. RESET PATH and DIRECTOR RESET (R22, R23, R64, R65, R89, R90, R133, R139, R153, R168, R169). -/

namespace Sys2Proof.Machine

/-! ## Stops (R22, R89, R90) -/

/-- The engine stops with no request left to end: the sector in hand is finished first, and the engine is held
until its end (log entry 18). -/
def Engine.stopping (e : Engine) (cands : List Work) : Engine :=
  { Engine.freeWith cands with phase := e.phase, hand := e.hand, stop := .drop }

/-- A request's transfer stops at the current block boundary, its connection already closed (R23, R89). -/
def State.stopTransfer (s : State) (d : Drive) (r : Request) : State :=
  if s.holds d r.path r.tag ∧ s.engine.hand.isSome then
    (s.setEngine (s.engine.stopping s.engine.candidates)).setWalk none
  else (s.detach d r.path r.tag).enterReady d

/-- A drive is taken from the request in service on it, by the table of R23. -/
def State.giveBack (s : State) (d : Drive) (r : Request) : State :=
  match (s.monOf d).state with
  | .seeking => s.setMarkCheck d .none
  | .orienting => ((s.detach d r.path r.tag).setMarkCheck d .none).enterReady d
  | .transferring => (s.setMarkCheck d .none).stopTransfer d r
  | .recalibrating =>
    if (s.monOf d).recal = .reseek then
      s.setMon d { s.monOf d with recal := .plain, markCheck := .none }
    else s
  | _ => s

/-! ## RESET PATH (R168) -/

/-- The path's requests leave a drive's queue without ending frames (R64); the drive of the one in service is
given back (R23). -/
def State.dropPathOn (s : State) (p : Path) (d : Drive) : State :=
  let s1 :=
    match s.serving d with
    | some r => if r.path = p then s.giveBack d r else s
    | none => s
  if (s1.queue d).any fun r => r.path = p then s1.loseEntries d ((s1.queue d).filter fun r => r.path ≠ p) else s1

/-- The path's group number becomes 0, with R145 if it was the last member. -/
def State.leaveGroup (s : State) (p : Path) : State :=
  if p = .s then s else (s.setGroup p 0).emptyGroup (s.group p)

/-- RESET PATH's step (R168). -/
def State.resetPath (s : State) (p : Path) : State :=
  let s1 := s.setPort p (Port.initial p)
  let s2 := allDrives.foldl (fun s d => s.dropPathOn p d) s1
  let s3 := (s2.setNotes (s2.notes.filter fun n => n.path ≠ p)).leaveGroup p
  let s4 := if p = .s then s3.setLoad none else s3
  s4.send p [.ending ⟨none, .normal, false, false, none, 0, none, none⟩]

/-- RESET_PATH (R168): taken in any link state, never refused. -/
def execResetPath (p : Path) (s : State) : Result := .next (s.resetPath p).settle

/-! ## DIRECTOR RESET (R169) -/

/-- The request of a path and tag, on whatever drive, ends ABANDONED (R169). -/
def State.abandonTag (s : State) (p : Path) (t : Tag) : State :=
  allDrives.foldl (fun s d =>
    match s.req? d p t with
    | some r => s.endWith d .abandoned r
    | none => s) s

/-- Every outstanding request ends ABANDONED, on each path in ascending order of tag (R169). -/
def State.abandonAll (s : State) : State :=
  allPaths.foldl (fun s p => allTags.foldl (fun s t => s.abandonTag p t) s) s

/-- What a path port loses: its raw set, its marks and its condition record (R169). -/
def Port.directorReset (x : Port) : Port :=
  { x with
    raw := [], awaitRoom := PerDrive.const false, awaitRelease := PerDrive.const false
    condition := ConditionRecord.empty }

/-- A block is being written: its write completes before the engine lets go (R22, R90). -/
def Hand.writing (h : Hand) : Bool :=
  match h.op with
  | .write _ _ => true
  | .passWrite _ => true
  | _ => false

/-- The block in hand is one being written on this drive. -/
def State.writingOn (s : State) (d : Drive) : Bool :=
  match s.engine.hand with
  | some h => decide (h.drive = d) && h.writing
  | none => false

/-- One drive monitor at DIRECTOR RESET (R22); `writing` says a block is being written on its drive. -/
def State.resetDrive (s : State) (writing : Bool) (d : Drive) : State :=
  let s1 := s.setMarkCheck d .none
  match (s.monOf d).state with
  | .orienting => s1.enterReady d
  | .transferring => if writing then s1 else s1.enterReady d
  | .recalibrating =>
    if (s.monOf d).recal = .spinCheck then s1 else s1.setMon d { s1.monOf d with recal := .plain }
  | _ => s1

/-- The engine at DIRECTOR RESET: its after-power-on record, once a block being written is done (R68, R90). -/
def State.resetEngine (s : State) (e : Engine) (g : Option Gate) : State :=
  match e.hand with
  | some h =>
    if h.writing then (s.setEngine (e.stopping [])).setGate g
    else (s.setEngine (Engine.freeWith [])).setGate none
  | none => (s.setEngine (Engine.freeWith [])).setGate none

/-- DIRECTOR RESET's step, but for its answer (R169). The ABANDONED endings are made in the step, so that the block
being written, which completes after it (R22, R90), is not counted in the blocks done of its request's ending: R90's "as
counted" is read as counted at the reset (DESIGN CHOICE; log entry 41). -/
def State.directorReset (s : State) : State :=
  let s1 := (s.abandonAll).abandonReloc
  let s2 := ((s1.setNotes []).setWalk none).resetEngine s.engine s.gate
  let s3 := allPaths.foldl (fun s p => s.setPort p (s.port p).directorReset) s2
  let s4 := allDrives.foldl (fun x d => ((x.setReserved d none).setScan d ScanState.initial).resetDrive (s.writingOn d) d) s3
  s4

/-- DIRECTOR_RESET (R169). -/
def execDirectorReset (ended : List Path) (s : State) : Result :=
  .next (s.decoderTurn .directorReset ended fun s p f => s.immediate p f fun s =>
    (s.directorReset).answer p f .normal).settle

end Sys2Proof.Machine
end

