-- ==== Sys2Proof/Machine/Tables.lean ====
section
/-! DEFINITION. The table store: FETCH TABLE, LOAD TABLE, validation, load conditions and what a taken load does (chapter 10, R5, R132, R139, R142, R158). -/

namespace Sys2Proof.Machine

/-! ## Addressing (R171) -/

/-- The entry that ends a table too early: the first entry number at or above `n`, absent for count 0 (R171). -/
def beyond (n first count : Nat) : Option (Option Nat) :=
  if count = 0 then some none else if n < first + count then some (some (max first n)) else none

/-- The addressing fault of a table order, with the entry concerned; none when the addressing is sound (R171). -/
def addressFault (load : Bool) (table first count : Nat) : Option (Option Nat) :=
  match table with
  | 1 => beyond 8 first count
  | 2 => beyond 4 first count
  | 3 => if 7 < first ∨ count = 0 ∨ 8 < first + count ∨ (load ∧ count ≠ 1) then some none else none
  | 4 => if count = 0 ∨ 16 < first + count then some (Config.unstatedEntry 4 first count) else none
  | 5 => if first ≠ 1 ∨ count = 0 ∨ 16 < count then some (Config.unstatedEntry 5 first count) else none
  | 6 => if first ≠ 0 ∨ count ≠ 1 then some (Config.unstatedEntry 6 first count) else none
  | 7 => if load ∨ count = 0 ∨ 16 < first + count then some none else none
  | _ => if load ∨ count = 0 ∨ 8 < first + count then some none else none

/-! ## Fetching (R172, R179) -/

/-- The number of a drive position, as an entry number. -/
def driveNo (n : Nat) : Drive := Fin.ofNat 8 n

/-- The SPARE MAP entry of a drive: its records in map order (Table 10-4). -/
def mapBytes (map : List MapRec) (d : Drive) : List Byte :=
  let rs := map.filter fun r => r.drive = d
  u8 rs.length :: rs.flatMap MapRec.bytes

/-- The holder group of a drive; 0 when UNRESERVED (Table 10-3). -/
def holderGroup (x : Option Nat) : Nat :=
  match x with
  | some g => g
  | none => 0

/-- The DRIVE STATUS entry of a drive (Tables 10-3, 10-4). -/
def State.statusBytes (s : State) (d : Drive) : List Byte :=
  let m := s.monOf d
  [u8 m.state.value, u8 m.cause.value] ++ u16 m.cylinder ++
    [u8 (holderGroup (s.reservedBy d)), u8 (s.queue d).length] ++
    u16 (freeCount s.map (s.geom d) d) ++ u16 m.pointer.cyl ++
    [u8 m.pointer.head, u8 m.gatePasses, u8 m.gateFails]

/-- One entry of a table as it stands (R172, Table 10-4). -/
def State.entryBytes (s : State) (table n : Nat) : List Byte :=
  match table with
  | 1 => (s.geom (driveNo n)).bytes
  | 2 => profileBytes (s.profiles.get (Fin.ofNat 4 n))
  | 3 => mapBytes s.map (driveNo n)
  | 4 => (s.extents.getD n Extent.initial).bytes
  | 5 =>
    match s.ladder[n - 1]? with
    | some x => x.bytes
    | none => [0, 0, 0]
  | 6 => s.policy.bytes
  | 7 => watchBytes n s.watch[n]?
  | _ => s.statusBytes (driveNo n)

/-- The addressed entries as they stand, one after the other (R172). -/
def State.tableBytes (s : State) (table first count : Nat) : List Byte :=
  (List.range count).flatMap fun i => s.entryBytes table (first + i)

/-- FETCH TABLE carried out: the snapshot's data frames and the ending NORMAL, or TABLE INVALID alone (R172). -/
def State.doFetch (s : State) (p : Path) (f : List Byte) : State :=
  let table := byteAt f 12
  let first := byteAt f 13
  let count := wordAt f 14
  match addressFault false table first count with
  | some entry => s.send p [.ending (answerOf f .tableInvalid true entry)]
  | none =>
    s.send p (dataFrames (s.tableBytes table first count) ++ [.ending (answerOf f .normal false none)])

/-- The decoder's turn on a FETCH TABLE of one table. -/
def State.fetchTurn (s : State) (table : Nat) (ended : List Path) : Result :=
  .next (s.decoderTurn (.fetch table) ended fun s p f => s.immediate p f fun s => s.doFetch p f)

/-- FETCH_GEOMETRY (R172). -/
def execFetchGeometry (ended : List Path) (s : State) : Result := s.fetchTurn 1 ended
/-- FETCH_PROFILE (R172). -/
def execFetchProfile (ended : List Path) (s : State) : Result := s.fetchTurn 2 ended
/-- FETCH_SPARE_MAP (R172). -/
def execFetchSpareMap (ended : List Path) (s : State) : Result := s.fetchTurn 3 ended
/-- FETCH_EXTENTS (R172). -/
def execFetchExtents (ended : List Path) (s : State) : Result := s.fetchTurn 4 ended
/-- FETCH_LADDER (R171). -/
def execFetchLadder (ended : List Path) (s : State) : Result := s.fetchTurn 5 ended
/-- FETCH_POLICY (R172). -/
def execFetchPolicy (ended : List Path) (s : State) : Result := s.fetchTurn 6 ended
/-- FETCH_WATCH (R179). -/
def execFetchWatch (ended : List Path) (s : State) : Result := s.fetchTurn 7 ended
/-- FETCH_DRIVE_STATUS (R179). -/
def execFetchDriveStatus (ended : List Path) (s : State) : Result := s.fetchTurn 8 ended

/-! ## Loading: the order (R173) -/

/-- LOAD_TABLE (R173): the order is handed to the table store, and the port stays RECEIVING for the data. -/
def execLoadTable (ended : List Path) (s : State) : Result :=
  .next (s.decoderTurn .loadTable ended fun s p f => s.immediate p f fun s =>
    (s.setPort p { s.port p with rx := none }).setLoad
      (some ⟨byteAt f 12, byteAt f 13, wordAt f 14, []⟩))

/-! ## Loading: validation (R173–R178) -/

/-- The active relocation, if there is one, is on another drive. -/
def State.noRelocOn (s : State) (d : Drive) : Bool :=
  match s.reloc with
  | some r => decide (r.drive ≠ d)
  | none => true

/-- The items of a GEOMETRY change that need a quiet drive: any but auto-spare and scan (R174). -/
def Geometry.mainChange (o g : Geometry) : Bool :=
  decide (g.present ≠ o.present ∨ g.cyls ≠ o.cyls ∨ g.heads ≠ o.heads ∨ g.spares ≠ o.spares ∨
    g.profile ≠ o.profile)

/-- A change of C, H or S. -/
def Geometry.shapeChange (o g : Geometry) : Bool :=
  decide (g.cyls ≠ o.cyls ∨ g.heads ≠ o.heads ∨ g.spares ≠ o.spares)

/-- ABSENT, OFFLINE or FAULTED, or READY (a drive held by scan control counts as READY) with an empty queue and no
active relocation (R174). -/
def State.quietFor (s : State) (d : Drive) : Bool :=
  match (s.monOf d).state with
  | .absent => true
  | .offline => true
  | .faulted => true
  | st =>
    (decide (st = .ready) || decide ((s.scanOf d).phase ≠ .none)) && (s.queue d).isEmpty && s.noRelocOn d

/-- A drive in ABSENT or OFFLINE. -/
def DriveState.away : DriveState → Bool
  | .absent => true
  | .offline => true
  | _ => false

/-- The load conditions of a GEOMETRY change (R174). -/
def State.geometryChangeOk (s : State) (d : Drive) (g : Geometry) : Bool :=
  let o := s.geom d
  let named := decide (g.profile ≠ o.profile) || (g.present && !o.present)
  let needs := !(s.monOf d).state.away || (g.present && (s.sideOf d).onlineLine)
  (!o.mainChange g || s.quietFor d) &&
    (!o.shapeChange g || !(s.map.any fun r => r.drive = d)) &&
    (!(named && needs) || !(s.profiles.get g.profile).isEmpty)

/-- A loaded GEOMETRY entry passes (R174). -/
def State.geometryOk (s : State) (d : Drive) (b : List Byte) : Bool :=
  match geometryOf b with
  | some g => decide (g = s.geom d) || s.geometryChangeOk d g
  | none => false

/-- A present drive names this profile. -/
def State.names (s : State) (i : Fin 4) (d : Drive) : Bool :=
  (s.geom d).present && decide ((s.geom d).profile = i)

/-- A loaded PROFILE entry passes (R175, R5, R66). A profile equal to the one in force is not tested: R175 puts its
conditions on one that differs, where R5 refuses a load that would leave a profile empty, one empty before among them
(DESIGN CHOICE; log entry 60). -/
def State.profileOkFor (s : State) (i : Fin 4) (b : List Byte) : Bool :=
  match profileOf b with
  | none => false
  | some p =>
    decide (p = s.profiles.get i) ||
      allDrives.all fun d => !s.names i d ||
        ((s.queue d).isEmpty && (!p.isEmpty || ((s.monOf d).state.away && !(s.sideOf d).onlineLine)))

/-- The records a SPARE MAP load carries for a drive, none when one is invalid in itself (R176). -/
def loadedRecords (d : Drive) (data : List Byte) : Option (List MapRec) :=
  (List.range (byteAt data 0)).foldr
    (fun i acc =>
      match mapRecOf d (entryAt (data.drop 1) 7 i), acc with
      | some r, some rs => some (r :: rs)
      | _, _ => none) (some [])

/-- Strictly ascending by alternate cylinder, then head (R176). -/
def ascending : List MapRec → Bool
  | [] => true
  | [_] => true
  | a :: b :: rest => a.alt.before b.alt && ascending (b :: rest)

/-- No two records name the same home (R176). -/
def homesDistinct : List MapRec → Bool
  | [] => true
  | r :: rs => (r.activeHome.isNone || !(rs.any fun x => x.activeHome = r.activeHome)) && homesDistinct rs

/-- The records fit the drive's geometry (R176). -/
def Geometry.recordOk (g : Geometry) (r : MapRec) : Bool :=
  g.inSpare r.alt &&
    (match r.activeHome with
     | some h => g.inHost h
     | none => true)

/-- A SPARE MAP load for a drive passes its checks and conditions (R176). -/
def State.spareMapOk (s : State) (d : Drive) (data : List Byte) : Bool :=
  match loadedRecords d data with
  | none => false
  | some rs =>
    rs.all (s.geom d).recordOk && ascending rs && homesDistinct rs &&
      decide ((s.map.filter fun r => r.drive ≠ d).length + rs.length ≤ Config.mapCapacity) &&
      s.noRelocOn d && (s.queue d).isEmpty

/-- The extent table as it would stand after a load (R177). A loaded entry that is out of range takes no part in the
overlap test, neither with its bytes nor with what its place held (log entry 43). -/
def loadedExtents (xs : List Extent) (first count : Nat) (data : List Byte) : List Extent :=
  (List.range count).foldl
    (fun l i =>
      match extentOf (entryAt data 8 i) with
      | some e => l.set (first + i) e
      | none => l.set (first + i) Extent.initial) xs

/-- Two entries in use overlap on a drive (R156). -/
def Extent.overlaps (a b : Extent) : Bool :=
  a.inUse && b.inUse && decide (a.drive = b.drive ∧ a.low ≤ b.high ∧ b.low ≤ a.high)

/-- The entry at `i` overlaps no other entry of the table. -/
def clearAt (xs : List Extent) (i : Nat) : Bool :=
  match xs[i]? with
  | none => true
  | some e => (List.range xs.length).all fun j => j = i || !(e.overlaps (xs.getD j Extent.initial))

/-- The entry of a load at place `i` passes (R174–R178). -/
def State.entryOk (s : State) (j : LoadJob) (i : Nat) : Bool :=
  match j.table with
  | 1 => s.geometryOk (driveNo (j.first + i)) (entryAt j.data 8 i)
  | 2 => s.profileOkFor (Fin.ofNat 4 (j.first + i)) (entryAt j.data 25 i)
  | 3 => s.spareMapOk (driveNo j.first) j.data
  | 4 =>
    (extentOf (entryAt j.data 8 i)).isSome && clearAt (loadedExtents s.extents j.first j.count j.data) (j.first + i)
  | 5 => (ladderStepOf (entryAt j.data 3 i)).isSome
  | 6 => (policyOf j.data).isSome
  | _ => false

/-- The bytes of one entry of a loadable table; for SPARE MAP see `needed`. -/
def entryLength : Nat → Nat
  | 1 => 8
  | 2 => 25
  | 4 => 8
  | 5 => 3
  | _ => 8

/-- The bytes a load's data must hold (R173, Table 10-4). -/
def LoadJob.needed (j : LoadJob) : Nat :=
  if j.table = 3 then 1 + 7 * byteAt j.data 0 else j.count * entryLength j.table

/-- The fault of a load's length: too few bytes name the first entry not wholly supplied (R173). -/
def LoadJob.lengthFault (j : LoadJob) : Option (Option Nat) :=
  if j.data.length < j.needed then
    some (some (if j.table = 3 then j.first else j.first + j.data.length / entryLength j.table))
  else if j.needed < j.data.length then some none
  else none

/-- The first fault of a load, with its entry concerned; none when the load is taken (R173). -/
def State.loadFault (s : State) (j : LoadJob) : Option (Option Nat) :=
  match addressFault true j.table j.first j.count with
  | some e => some e
  | none =>
    match j.lengthFault with
    | some e => some e
    | none =>
      match (List.range j.count).find? fun i => !s.entryOk j i with
      | some i => some (some (j.first + i))
      | none => none

/-! ## Loading: effects (R5, R132, R139, R142, R158) -/

/-- The drive monitor acts on its entry's presence and profile (R5, R6). A drive marked not present has idle count 0, one
held by scan control included: R135's "enters ABSENT" over the third row of R139, by which a GEOMETRY load keeps the
count (DESIGN CHOICE; log entry 55). -/
def State.monitorLoaded (s : State) (d : Drive) (present : Bool) : State :=
  if present then
    if (s.monOf d).state = .absent then (s.setDriveState d .offline).trySpinCheck d else s.trySpinCheck d
  else (s.setMon d { Monitor.initial with pointer := (s.monOf d).pointer }).clearIdle d

/-- The watch list and the relocation queue after a GEOMETRY change (R132). -/
def State.listsLoaded (s : State) (d : Drive) (o g : Geometry) : State :=
  if !g.present then
    (s.setWatch (s.watch.filter fun e => e.drive ≠ d)).setRelocQ (s.relocQ.filter fun e => e.drive ≠ d)
  else if o.shapeChange g then
    (s.setWatch (s.watch.filter fun e => e.drive ≠ d ∨ g.inHost e.track)).setRelocQ
      (s.relocQ.filter fun e => e.drive ≠ d ∨ g.inHost e.home)
  else s

/-- The scan pointer after a GEOMETRY change (R142). -/
def State.pointerLoaded (s : State) (d : Drive) (g : Geometry) : State :=
  let t := (s.monOf d).pointer
  if g.present ∧ (g.cyls ≤ t.cyl ∨ g.heads ≤ t.head) then s.setMon d { s.monOf d with pointer := ⟨0, 0⟩ } else s

/-- A GEOMETRY entry is taken; one equal to that in force changes nothing (R174). -/
def State.takeGeometry (s : State) (d : Drive) (g : Geometry) : State :=
  let o := s.geom d
  if g = o then s
  else
    ((((s.abandonScan d).setGeom d g).monitorLoaded d g.present).listsLoaded d o g).pointerLoaded d g

/-- A PROFILE entry is taken: OFFLINE drives that name it may start their spin check (R175, R6). -/
def State.takeProfile (s : State) (i : Fin 4) (p : List SeekPoint) : State :=
  if p = s.profiles.get i then s
  else
    allDrives.foldl (fun s d => if s.names i d then s.trySpinCheck d else s)
      (s.setProfiles (s.profiles.set i p))

/-- The watch list of a drive after its spare map is replaced (R132). -/
def State.watchReloaded (s : State) (d : Drive) : State :=
  s.setWatch ((s.watch.filter fun e => e.drive ≠ d ∨ s.weighs d e.track).map fun e =>
    if e.drive = d then
      { e with
        unrelocatable := false
        queued := match s.homeOf d e.track with | some h => s.homeBusy d h | none => false }
    else e)

/-- A SPARE MAP load is taken (R39, R132, R139, R176). -/
def State.takeSpareMap (s : State) (d : Drive) (rs : List MapRec) : State :=
  ((s.abandonScan d).replaceRecords d rs).watchReloaded d

/-- In this sector the block of a request of this order is being read for the host, or written (R158). A write
withheld because its mark failed and a merge's read or reread of the old block (R83, R101) begin no block: the block is
still to be written, and R157 keeps it from a READ-ONLY extent (log entry 39). -/
def HandOp.begins (o : QOrder) : HandOp → Bool
  | .write _ _ => true
  | .firstRead => decide (o ≠ .write)
  | .reread => decide (o ≠ .write)
  | _ => false

/-- The request's block is in hand: it is being read or written (R158). -/
def State.inHand (s : State) (d : Drive) (r : Request) : Bool :=
  match s.engine.hand with
  | some h => s.holds d r.path r.tag && h.op.begins r.order
  | none => false

/-- The first block of a request that is not yet begun (R158). Between two rereads of a walk, and while a merged block
waits for its write, no block is in hand and the request's next block is tested (DESIGN CHOICE; log entry 39). So it is
for a connected READ with no block in hand whose staging slots hold blocks already read, as while it drains or waits a
revolution: R158's "next block", the first not done (R46), is followed over its "blocks not yet begun" (DESIGN CHOICE; log
entry 58). -/
def State.notBegun (s : State) (d : Drive) (r : Request) : Nat :=
  match s.engine.current with
  | some c => if s.inHand d r then c.block + 1 else r.next (s.geom d)
  | none => r.next (s.geom d)

/-- The retest of an outstanding request against the extent table in force (R158). -/
def State.retest (s : State) (d : Drive) (r : Request) : Option Code :=
  let g := s.geom d
  if r.path ≠ .s ∧ r.order.transfers ∧ s.notBegun d r ≤ r.last g then
    extentTest s.extents d r.order (s.group r.path) (g.addrOf (s.notBegun d r)).cyl (g.addrOf (r.last g)).cyl
  else none

/-- A request that fails the retest ends, or its transfer stops at the current block boundary (R158). A second EXTENTS
load taken while a stop waits for that boundary tests the request again: a later failing code takes the first one's
place, and a pass leaves the first (DESIGN CHOICE; log entry 40). R158 gives no moment for the discard of the blocks in
the staging slots, and R77's is the release: the slots are EMPTY from the load on, so a READ block that the path is still
taking is not done (DESIGN CHOICE; log entry 49). R102 has no row for this stop: the walk ends at the load with no report,
that of a block being written after its mark was met included (DESIGN CHOICE; log entry 50). A connected request that ends
here before its first mark was read leaves the mark check as it stands, PENDING or RESEEK: of R158's rows only the second
points to R23, which sets it none (DESIGN CHOICE; log entry 57). -/
def State.endByExtent (s : State) (d : Drive) (r : Request) (code : Code) : State :=
  if !r.inService then s.endWith d code r
  else if s.connected d r.path r.tag then
    if s.engine.hand.isSome then
      (s.setEngine { s.engine with slot1 := Slot.none, slot2 := Slot.none, stop := .ending code }).setWalk none
    else (s.endWith d code r).enterReady d
  else (s.giveBack d r).endWith d code r

/-- The retest of the request of a path and tag, on whatever drive. -/
def State.retestTag (s : State) (p : Path) (t : Tag) : State :=
  allDrives.foldl (fun s d =>
    match s.req? d p t with
    | some r =>
      match s.retest d r with
      | some code => s.endByExtent d r code
      | none => s
    | none => s) s

/-- Every outstanding host request is retested, on each path in ascending order of tag (R158). -/
def State.retestAll (s : State) : State :=
  [Path.a, .b, .c, .d].foldl (fun s p => allTags.foldl (fun s t => s.retestTag p t) s) s

/-- A load without fault takes effect in one step (R173). -/
def State.takeLoad (s : State) (j : LoadJob) : State :=
  match j.table with
  | 1 =>
    (List.range j.count).foldl (fun s i =>
      match geometryOf (entryAt j.data 8 i) with
      | some g => s.takeGeometry (driveNo (j.first + i)) g
      | none => s) s
  | 2 =>
    (List.range j.count).foldl (fun s i =>
      match profileOf (entryAt j.data 25 i) with
      | some p => s.takeProfile (Fin.ofNat 4 (j.first + i)) p
      | none => s) s
  | 3 =>
    match loadedRecords (driveNo j.first) j.data with
    | some rs => s.takeSpareMap (driveNo j.first) rs
    | none => s
  | 4 => (s.setExtents (loadedExtents s.extents j.first j.count j.data)).retestAll
  | 5 => s.setLadder ((List.range j.count).filterMap fun i => ladderStepOf (entryAt j.data 3 i))
  | 6 =>
    match policyOf j.data with
    | some p => s.setPolicy p
    | none => s
  | _ => s

/-- The ending of a load (R173): NORMAL, or TABLE INVALID naming the entry at fault. It carries no drive, that of a SPARE
MAP load included (DESIGN CHOICE; log entry 59). -/
def loadEnding (fault : Option (Option Nat)) : Ending where
  tag := none
  code := match fault with | some _ => .tableInvalid | none => .normal
  refusal := fault.isSome
  reserved := false
  drive := none
  blocksDone := 0
  block := none
  entry := match fault with | some e => e | none => none

/-- The last data byte of a load has arrived on S: the load is judged and taken in one step (R173). -/
def State.endLoad (s : State) (p : Path) (j : LoadJob) : State :=
  let fault := s.loadFault j
  let s1 := s.setLoad none
  let s2 := match fault with | some _ => s1 | none => s1.takeLoad j
  s2.send p [.ending (loadEnding fault)]

end Sys2Proof.Machine
end

