-- ==== Sys2Proof/Machine/Links.lean ====
section
/-! DEFINITION. The path links: order frames, ACCEPT, data frames, frames gone out, endings and notices, and the STALLED events (R70, R74–R78, R81, R87, R108, R159–R161, R165, R167). -/

namespace Sys2Proof.Machine

/-! ## An order frame begins (R70, R75, R160) -/

/-- The host candidate of a path, if this work is one. -/
def Work.isOf (w : Work) (p : Path) : Bool := decide (w.path? = some p)

/-- A candidate leaves the list and its request misses (R70, R75). -/
def State.candidateMisses (s : State) (w : Work) : State := (s.unoffer w).takeMiss w.drive

/-- The host side begins an order frame on a FREE link: RECEIVING, and the path's candidates miss (R75, R160). Where two
of them reach the stall limit in this step, their STALLED endings join the path's list in the order of the candidate
list, on which no rule speaks (DESIGN CHOICE; log entry 52). -/
def State.beginOrder (s : State) (p : Path) (frame : List Byte) : State :=
  (s.engine.candidates.filter (·.isOf p)).foldl (fun s w => s.candidateMisses w)
    (s.setPort p { s.port p with link := .receiving, rx := some frame })

/-- ORDER_FRAME_BEGIN (R160): only while the link is FREE. -/
def execOrderFrameBegin (p : Path) (frame : List Byte) (s : State) : Result :=
  if (s.port p).link = .free then .next (s.beginOrder p frame).settle else .next s

/-! ## ACCEPT (R74, R81, R170) -/

/-- The frame is an ACCEPT of the layout of Table 9-7 that names this tag. -/
def acceptNames (frame : List Byte) (t : Tag) : Bool :=
  frame.length == 2 && byteAt frame 0 == 2 && byteAt frame 1 == t.val

/-- ACCEPT taken in time: the path is CONNECTED, the drive TRANSFERRING, the engine RUNNING; a WRITE asks for
data (R74, R81). -/
def State.connect (s : State) (d : Drive) (p : Path) (t : Tag) : State :=
  let s1 := s.setPort p { s.port p with link := .connected, out := [] }
  let s2 := (s1.setDriveState d .transferring).setEngine { s1.engine with phase := .running }
  match s2.req? d p t with
  | some r => s2.askBlocks d r
  | none => s2

/-- The recall being offered on a path: its drive and tag. -/
def State.recallOn (s : State) (p : Path) : Option (Drive × Tag) :=
  match s.engine.holder with
  | some (.host d q t) => if q = p ∧ s.engine.phase = .recalling then some (d, t) else none
  | _ => none

/-- ACCEPT (R74). -/
def execAccept (p : Path) (frame : List Byte) (s : State) : Result :=
  match s.recallOn p with
  | some (d, t) => if acceptNames frame t then .next (s.connect d p t) else .next s
  | none => .next s

/-! ## A data frame arrives (R77, R81, R173) -/

/-- The block whose bytes the path sends: the lowest FILLING slot (R81). -/
def Engine.nextFilling (e : Engine) : Option Slot :=
  if e.slot1.st = .filling then
    if e.slot2.st = .filling ∧ e.slot2.block < e.slot1.block then some e.slot2 else some e.slot1
  else if e.slot2.st = .filling then some e.slot2 else none

/-- Bytes arrive in a FILLING slot; it is FULL when all of its block's bytes have arrived (R77, R81). -/
def Slot.fill (x : Slot) (data : List Byte) (need : Nat) : Slot :=
  let bytes := (x.bytes ++ data).take need
  ⟨if need ≤ bytes.length then .full else .filling, x.block, bytes⟩

/-- The data of a connected WRITE arrives (R81). The slot that a merge reads the old block into takes none. -/
def State.stageData (s : State) (d : Drive) (r : Request) (data : List Byte) : State :=
  if r.order = .write ∧ s.engine.merge ≠ .oldRead then
    match s.engine.nextFilling with
    | some x =>
      s.setEngine (s.engine.mapSlots fun y =>
        if y.st = .filling ∧ y.block = x.block then y.fill data (r.bytesOf (s.geom d) y.block) else y)
    | none => s
  else s

/-- The request connected on a path, with its drive and tag. -/
def State.connectionOn (s : State) (p : Path) : Option (Drive × Request) :=
  match s.engine.holder with
  | some (.host d q t) =>
    if q = p ∧ s.connected d p t = true then (s.req? d p t).map fun r => (d, r) else none
  | _ => none

/-- Table data arrives on S; with its last byte the load is judged and taken (R173). -/
def State.tableData (s : State) (p : Path) (data : List Byte) (last : Bool) : State :=
  match s.load with
  | some j =>
    if p = .s ∧ (s.port p).link = .receiving ∧ (s.port p).rx = none then
      let j' : LoadJob := { j with data := j.data ++ data }
      if last then (s.endLoad p j').settle else s.setLoad (some j')
    else s
  | none => s

/-- DATA_FRAME (R81, R173): data that nothing waits for has no effect. -/
def execDataFrame (p : Path) (data : List Byte) (last : Bool) (s : State) : Result :=
  match s.connectionOn p with
  | some (d, r) => .next (s.stageData d r data)
  | none => .next (s.tableData p data last)

/-! ## The port's own frames begin (R161, R167) -/

/-- ENDING_FRAME_BEGIN (R161). -/
def execEndingFrameBegin (p : Path) (s : State) : Result :=
  if (s.port p).link = .free then .next (s.beginEnding p) else .next s

/-- NOTICE_FRAME_BEGIN (R167). -/
def execNoticeFrameBegin (p : Path) (s : State) : Result :=
  if (s.port p).link = .free ∧ (s.port p).endings = [] then .next (s.beginNotice p) else .next s

/-! ## A frame has gone out (R78, R87, R108, R159, R160, R165) -/

/-- An ending frame has gone out: the condition record meets it (R108), and the tag slot and the note of the
queued request it closed are free (R94, R159). -/
def State.endingGone (s : State) (p : Path) (e : Ending) : State :=
  let s1 := s.capture p e
  match e.tag with
  | some t => if e.refusal then s1 else (s1.setTag p t .free).dropNote p t
  | none => s1

/-- The frame on the link has gone out (R160). -/
def State.frameGone (s : State) (p : Path) (f : Frame) : State :=
  match f with
  | .ending e => s.endingGone p e
  | _ => s

/-- The data frame in which a path takes a block of a READ: its bytes, of the request's last block the leading
last-block bytes only (R26, R78, R170). -/
def State.readFrame (s : State) (d : Drive) (r : Request) (x : Slot) : Frame :=
  .data (x.bytes.take (r.bytesOf (s.geom d) x.block))

/-- The path has taken the FULL slot's block of a READ in a data frame, which is kept as the output `lastRead`: the
block is done, and a DRAINING engine may end (R78, R85, R87, R99). -/
def State.blockTaken (s : State) (d : Drive) (r : Request) : State :=
  match s.engine.oldestFull with
  | some x =>
    if r.order = .read then
      (((s.setLastRead (some ⟨r.path, r.tag, x.block, s.readFrame d r x⟩)).setEngine
        (s.engine.emptyBlock x.block)).blockDone d r.path r.tag).drained d r.path r.tag
    else s
  | none => s

/-- A recall stays on the link until ACCEPT or its withdrawal (R73). -/
def Frame.isRecall : Frame → Bool
  | .recall _ _ _ => true
  | _ => false

/-- The frame going out on a SENDING link has gone out; with the last one of the answer the link is FREE (R160).
`portFirst` says that the port's own next frame is taken at once, before a grant; where it is not, a grant leaves the
order to the free choice of R160. -/
def State.outGone (s : State) (p : Path) (portFirst : Bool) : State :=
  match (s.port p).out with
  | [] => s
  | f :: rest =>
    if f.isRecall then s
    else
      let s1 := (s.setPort p { s.port p with out := rest }).frameGone p f
      if rest.isEmpty then
        let s2 := s1.freeLink p
        (if portFirst then s2.portFrame p else s2).settle
      else s1

/-- FRAME_SENT (R160, R78). -/
def execFrameSent (p : Path) (portFirst : Bool) (s : State) : Result :=
  match (s.port p).link with
  | .sending => .next (s.outGone p portFirst)
  | .connected =>
    match s.connectionOn p with
    | some (d, r) => .next (s.blockTaken d r).settle
    | none => .next s
  | _ => .next s

/-! ## STALLED (R76) -/

/-- The event brings a miss that reaches the stall limit (R76, Table 4-2). -/
def State.stallsAt (s : State) : MissEvent → Bool
  | .pulse d _ => s.pulseMisses d && s.wouldStall d
  | .index d =>
    (s.monOf d).mismatches && !(s.monOf d).clockFaults && s.indexMisses d && s.wouldStall d
  | .orderFrame p _ =>
    decide ((s.port p).link = .free) && s.engine.candidates.any fun w => w.isOf p && s.wouldStall w.drive

/-- The event is taken. -/
def State.takeEvent (s : State) : MissEvent → State
  | .pulse d m => s.sectorPulse d m
  | .index d => s.indexPulse d
  | .orderFrame p f => s.beginOrder p f

/-- STALLED (R76): the event whose miss reaches the stall limit; it ends its request STALLED. -/
def execStalled (e : MissEvent) (s : State) : Result :=
  if s.stallsAt e then .next (s.takeEvent e).settle else .next s

end Sys2Proof.Machine
end

