-- ==== Sys2Proof/Machine/Reloc.lean ====
section
/-! DEFINITION. The relocation's steps: start, the ends of the read pass, track walk and verify revolutions, and the beginning of the COMMIT (R120–R129, R103). -/

namespace Sys2Proof.Machine

/-! ## Start (R120) -/

/-- An entry of this source whose drive is READY with an empty queue. -/
def State.startable (s : State) (src : Source) (e : RelocEntry) : Bool :=
  decide (e.source = src) && s.readyEmpty e.drive

/-- The entry a start chooses: the earliest ORDER, else the earliest WATCH, of those whose drive can start. -/
def State.chooseReloc (s : State) : Option RelocEntry :=
  match s.relocQ.find? (s.startable .order) with
  | some e => some e
  | none => s.relocQ.find? (s.startable .watch)

/-- The active relocation of an entry, over this alternate. -/
def State.relocOf (s : State) (e : RelocEntry) (t : Track) : Reloc where
  drive := e.drive
  home := e.home
  source := translate s.map e.drive e.home
  respare := (activeAlternate s.map e.drive e.home).isSome
  alternate := t
  stage := .readPass
  round := .first
  rev := .none
  holds := true

/-- SPARE FAILED for a home: the notice, and the marks on its watch entries (R120, R128). -/
def State.spareFailed (s : State) (d : Drive) (home : Track) (cause : SpareCause) : State :=
  (s.raiseAll ⟨.spareFailed, d, .spareFailed cause home⟩).forHome d home
    fun e => { e with queued := false, unrelocatable := true }

/-- The relocation of an entry starts over an alternate: its record, the owned buffer and the seek to the source. -/
def State.startOver (s : State) (e : RelocEntry) (t : Track) : State :=
  (((s.createPending e.drive e.home).setReloc (some (s.relocOf e t))).setBuffer
    { Buffer.free with owned := true }).seekForReloc e.drive (s.relocOf e t).source

/-- The entry leaves the relocation queue. -/
def State.dequeue (s : State) (e : RelocEntry) : State :=
  s.setRelocQ (dropFirst (fun x => decide (x.drive = e.drive ∧ x.home = e.home)) s.relocQ)

/-- Starts are tried until one is made or no entry can start; each try takes an entry from the queue. -/
def State.startReloc : Nat → State → State
  | 0, s => s
  | n + 1, s =>
    match s.chooseReloc with
    | none => s
    | some e =>
      match s.createAnswer e.drive with
      | .alternate t => (s.dequeue e).startOver e t
      | .poolExhausted => State.startReloc n ((s.dequeue e).spareFailed e.drive e.home .poolExhausted)
      | .mapFull => State.startReloc n ((s.dequeue e).spareFailed e.drive e.home .mapFull)

/-- RELOCATION_START (R120). -/
def execRelocationStart (s : State) : Result :=
  if s.buffer.owned then .next s else .next (State.startReloc s.relocQ.length s).settle

/-! ## The end of a revolution -/

/-- The relocation whose pass holds the engine, when all its 32 sectors have begun and ended. -/
def State.relocRevolution (s : State) : Option Reloc :=
  match s.engine.holder, s.reloc with
  | some (.reloc d), some r => if r.drive = d ∧ s.handFree = true ∧ s.engine.begun = 32 then some r else none
  | _, _ => none

/-- The state a read outcome gives a block of the buffer (R121, R122). -/
def blockAfter : ReadOutcome → BufState
  | .clean => .good
  | .correctable => .good
  | .uncorrectable => .failing
  | .mismatch => .failing
  | .damaged => .damaged

/-- One sector's result meets the buffer; a block that is GOOD keeps its state and contents (R121). -/
def takeResult (bs : List BufBlock) (x : PassResult) : List BufBlock :=
  if blockState bs x.sec = .good then bs else setBlock bs x.sec ⟨blockAfter x.outcome, x.bytes⟩

/-- The results of the revolution meet the buffer. -/
def State.takeResults (s : State) : State :=
  s.setBuffer { s.buffer with blocks := s.engine.results.foldl takeResult s.buffer.blocks }

/-- The pass releases the engine and is offered again on the same track (R72). -/
def State.offerAgain (s : State) (d : Drive) : State :=
  ((s.clearEngineOf d).setDriveState d .orienting).offer (.reloc d)

/-- The pass releases the engine and gives its drive back (R72). -/
def State.passOver (s : State) (d : Drive) : State := (s.clearEngineOf d).enterReady d

/-- The read pass is complete: HELD, the drive READY, and the COMMIT in the same step if its queue is empty
(R122). -/
def State.readComplete (s : State) (r : Reloc) : State :=
  ((s.setReloc (some { r with stage := .held, rev := .none, holds := false })).passOver r.drive).beginCommit

/-- The track walk starts over the failing set (R103). -/
def State.startTrackWalk (s : State) (r : Reloc) (failing : List Nat) : State :=
  let left := match stepAt s.ladder 1 with | some x => x.rereads | none => 0
  ((s.setTrackWalk (some ⟨r.drive, r.source, failing, s.ladder, 1, left⟩)).issueStep r.drive s.ladder 1 false).offerAgain
    r.drive

/-- The end of the read pass's first revolution (R121, R122). -/
def State.readPassEnd (s : State) (r : Reloc) : State :=
  let s1 := s.takeResults
  let failing := failingSet s1.buffer.blocks
  if failing.isEmpty then s1.readComplete r else s1.startTrackWalk r failing

/-- READ_PASS_REVOLUTION_END (R122). -/
def execReadPassRevolutionEnd (s : State) : Result :=
  match s.relocRevolution with
  | some r =>
    if r.stage = .readPass ∧ s.trackWalk = none then .next (s.readPassEnd r).settle else .next s
  | none => .next s

/-- The blocks still FAILING are DAMAGED (R122). -/
def exhaustBlocks (bs : List BufBlock) : List BufBlock :=
  bs.map fun b => if b.st = .failing then { b with st := .damaged } else b

/-- The walk is over: the settings are centred and the read pass is complete (R103, R122). -/
def State.trackWalkOver (s : State) (r : Reloc) : State :=
  ((s.setTrackWalk none).cmdCentre r.drive).readComplete r

/-- The end of a revolution of the track walk; its reread was counted at its grant (R103). -/
def State.trackWalkEnd (s : State) (r : Reloc) (w : TrackWalk) : State :=
  let s1 := s.takeResults
  let rest := w.failing.filter fun i => blockState s1.buffer.blocks i = .failing
  if rest.isEmpty then s1.trackWalkOver r
  else if 0 < w.left then (s1.setTrackWalk (some { w with failing := rest })).offerAgain r.drive
  else
    match stepAt w.ladder (w.step + 1) with
    | some x =>
      ((s1.setTrackWalk (some { w with failing := rest, step := w.step + 1, left := x.rereads })).issueStep r.drive
        w.ladder (w.step + 1) false).offerAgain r.drive
    | none => (s1.setBuffer { s1.buffer with blocks := exhaustBlocks s1.buffer.blocks }).trackWalkOver r

/-- TRACK_WALK_REVOLUTION_END (R103). -/
def execTrackWalkRevolutionEnd (s : State) : Result :=
  match s.relocRevolution, s.trackWalk with
  | some r, some w => if r.stage = .readPass then .next (s.trackWalkEnd r w).settle else .next s
  | _, _ => .next s

/-! ## COMMIT (R125, R127, R128) -/

/-- COMMIT_BEGIN (R125). -/
def execCommitBegin (s : State) : Result := .next s.beginCommit.settle

/-- The sector is verified: CLEAN for a GOOD block, DAMAGED for a DAMAGED block (R127). -/
def verified (bs : List BufBlock) (x : PassResult) : Bool :=
  match blockState bs x.sec with
  | .good => decide (x.outcome = .clean)
  | .damaged => decide (x.outcome = .damaged)
  | _ => false

/-- All 32 sectors of the verify revolution were verified (R127). -/
def State.allVerified (s : State) : Bool :=
  decide (s.engine.results.length = 32) && s.engine.results.all (verified s.buffer.blocks)

/-- POOL LOW, if the FREE count is at or below the mark (R127). -/
def State.poolLowTest (s : State) (d : Drive) : State :=
  let n := freeCount s.map (s.geom d) d
  if n ≤ s.policy.poolLow then s.raiseAll ⟨.poolLow, d, .pool n⟩ else s

/-- The watch entries of two tracks of a drive leave (R127). -/
def State.forgetTracks (s : State) (d : Drive) (a b : Track) : State :=
  s.setWatch (s.watch.filter fun e => !(e.names d a || e.names d b))

/-- The COMMIT succeeds (R127). -/
def State.commitDone (s : State) (r : Reloc) : State :=
  let n := damagedCount s.buffer.blocks
  let s1 := (((s.activate r.drive r.home).setBuffer Buffer.free).forgetTracks r.drive r.home r.source).raiseAll
    ⟨.spared, r.drive, .spared r.home r.alternate n⟩
  ((s1.poolLowTest r.drive).setReloc none).passOver r.drive

/-- The relocation fails (R128). -/
def State.relocFails (s : State) (r : Reloc) : State :=
  (((s.setBuffer Buffer.free).spareFailed r.drive r.home .verify).setReloc none).passOver r.drive

/-- The COMMIT's verify failed: a second alternate is tried in round FIRST, or the relocation fails (R128). -/
def State.verifyFailed (s : State) (r : Reloc) : State :=
  let s1 := s.withdraw r.drive
  match r.round, s1.createAnswer r.drive with
  | .first, .alternate t =>
    (((s1.createPending r.drive r.home).setReloc
      (some { r with alternate := t, round := .second, stage := .held, rev := .none, holds := false })).passOver
        r.drive).beginCommit
  | _, _ => s1.relocFails r

/-- VERIFY_REVOLUTION_END (R127, R128). -/
def execVerifyRevolutionEnd (s : State) : Result :=
  match s.relocRevolution with
  | some r =>
    if r.stage = .commit ∧ r.rev = .verify then
      .next (if s.allVerified then s.commitDone r else s.verifyFailed r).settle
    else .next s
  | none => .next s

end Sys2Proof.Machine
end

