-- ==== Sys2Proof/Machine/Scan.lean ====
section
/-! DEFINITION. Scan control: the start and the completion of a pass, its score and the scan pointer (R136, R137, R140, R141). -/

namespace Sys2Proof.Machine

/-! ## Start (R136) -/

/-- A relocation waits for the drive or works on it (R136, condition 4). -/
def State.relocWaits (s : State) (d : Drive) : Bool :=
  (match s.reloc with | some r => decide (r.drive = d) | none => false) ||
    (!s.buffer.owned && s.relocQ.any fun e => e.drive = d)

/-- The conditions of R136. -/
def State.scanReady (s : State) (d : Drive) : Bool :=
  (s.geom d).scan && s.readyEmpty d && decide ((s.scanOf d).phase = .none) &&
    decide (s.policy.scanIdle ≤ (s.scanOf d).idle) && !s.relocWaits d

/-- A pass starts: the results are emptied and the seek to the pointer asked for; a drive already there is a
candidate at once (R136). -/
def State.startScan (s : State) (d : Drive) : State :=
  let s1 := (s.setScan d { s.scanOf d with phase := .seeking, results := [] }).askSeek d (s.monOf d).pointer
  if (s1.monOf d).state = .orienting then
    (s1.setScan d { s1.scanOf d with phase := .candidate }).offer (.scan d)
  else s1

/-- A pass starts where R136 holds. -/
def State.tryScan (s : State) (d : Drive) : State := if s.scanReady d then s.startScan d else s

/-- SCAN_PASS_START (R136). -/
def execScanPassStart (d : Drive) (s : State) : Result := .next (s.tryScan d).settle

/-! ## Score (R140) -/

/-- The weight of a sector's outcome. -/
def scanWeight : ReadOutcome → Nat
  | .clean => 0
  | .correctable => 1
  | .uncorrectable => 16
  | .mismatch => 16
  | .damaged => 0

/-- The sum of the weights of a pass. -/
def passWeight (os : List ReadOutcome) : Nat := (os.map scanWeight).foldl (· + ·) 0

/-- A track's watch entry is halved, and leaves the list at 0 (R140, R115). -/
def halveEntry (l : List WatchEntry) (d : Drive) (t : Track) : List WatchEntry :=
  (l.map fun e => if e.names d t then { e with score := e.score / 2 } else e).filter
    fun e => !(e.names d t && e.score == 0)

/-- A completed pass is scored (R140). -/
def State.scorePass (s : State) (d : Drive) : State :=
  let os := (s.scanOf d).results
  let t := (s.monOf d).pointer
  if os.all (· == .clean) then s.setWatch (halveEntry s.watch d t) else s.report d t (passWeight os)

/-! ## The pointer (R141) -/

/-- The next physical track of a drive. -/
def Geometry.nextTrack (g : Geometry) (t : Track) : Track :=
  if t.head + 1 < g.heads then ⟨t.cyl, t.head + 1⟩
  else if t.cyl + 1 < g.cyls then ⟨t.cyl + 1, 0⟩
  else ⟨0, 0⟩

/-- A track the advance skips. -/
def skipped (map : List MapRec) (g : Geometry) (d : Drive) (t : Track) : Bool :=
  if g.inHost t then (activeAlternate map d t).isSome
  else g.inSpare t && decide (poolState map d t ≠ .inUse)

/-- The advance, over at most `n` tracks. -/
def advance (map : List MapRec) (g : Geometry) (d : Drive) : Nat → Track → Track
  | 0, t => t
  | n + 1, t =>
    let u := g.nextTrack t
    if skipped map g d u then advance map g d n u else u

/-- The scan pointer advances (R141). -/
def State.advancePointer (s : State) (d : Drive) : State :=
  let g := s.geom d
  s.setMon d { s.monOf d with pointer := advance s.map g d (g.cyls * g.heads) (s.monOf d).pointer }

/-! ## Completion (R137) -/

/-- The scan pass of the drive has its 32 outcomes. -/
def State.scanDone (s : State) (d : Drive) : Bool :=
  s.engine.holder == some (.scan d) && s.handFree && decide ((s.scanOf d).results.length = 32)

/-- The pass is completed: scored, the pointer advanced, the engine released, the drive READY (R137). -/
def State.completeScan (s : State) (d : Drive) : State :=
  let s1 := (s.scorePass d).advancePointer d
  ((s1.setScan d { s1.scanOf d with phase := .none, results := [] }).passOver d).tryScan d

/-- SCAN_PASS_COMPLETE (R137, R140, R141). -/
def execScanPassComplete (d : Drive) (s : State) : Result :=
  if s.scanDone d then .next (s.completeScan d).settle else .next s

end Sys2Proof.Machine
end

