-- ==== Sys2Proof/Machine/Dispatch.lean ====
section
/-! DEFINITION. The dispatch of the commands: one arm for each row of the table. -/

namespace Sys2Proof.Machine

/-- The effect of a command on everything but the queue of waiting commands. -/
def exec (i : Instr) (s : State) : Host.Outcome State Fault Refusal :=
  match i with
  | .powerOnReset => Sys2Proof.Machine.execPowerOnReset s
  | .onlineRise d => Sys2Proof.Machine.execOnlineRise d s
  | .onlineFall d => Sys2Proof.Machine.execOnlineFall d s
  | .gateOpen d high => Sys2Proof.Machine.execGateOpen d high s
  | .gateClose d high => Sys2Proof.Machine.execGateClose d high s
  | .spinCheckGiveUp d high => Sys2Proof.Machine.execSpinCheckGiveUp d high s
  | .indexPulse d => Sys2Proof.Machine.execIndexPulse d s
  | .clockFault d => Sys2Proof.Machine.execClockFault d s
  | .sectorPulse d mark => Sys2Proof.Machine.execSectorPulse d mark s
  | .seekComplete d => Sys2Proof.Machine.execSeekComplete d s
  | .seekLimit d => Sys2Proof.Machine.execSeekLimit d s
  | .faultRise d => Sys2Proof.Machine.execFaultRise d s
  | .orderFrameBegin p frame => Sys2Proof.Machine.execOrderFrameBegin p frame s
  | .read ended => Sys2Proof.Machine.execRead ended s
  | .write ended => Sys2Proof.Machine.execWrite ended s
  | .verify ended => Sys2Proof.Machine.execVerify ended s
  | .position ended => Sys2Proof.Machine.execPosition ended s
  | .reserve ended => Sys2Proof.Machine.execReserve ended s
  | .release ended => Sys2Proof.Machine.execRelease ended s
  | .recalibrate ended gone => Sys2Proof.Machine.execRecalibrate ended gone s
  | .setGroup ended => Sys2Proof.Machine.execSetGroup ended s
  | .setNotices ended => Sys2Proof.Machine.execSetNotices ended s
  | .clearNotices ended => Sys2Proof.Machine.execClearNotices ended s
  | .reportCondition ended => Sys2Proof.Machine.execReportCondition ended s
  | .fetchGeometry ended => Sys2Proof.Machine.execFetchGeometry ended s
  | .fetchProfile ended => Sys2Proof.Machine.execFetchProfile ended s
  | .fetchSpareMap ended => Sys2Proof.Machine.execFetchSpareMap ended s
  | .fetchExtents ended => Sys2Proof.Machine.execFetchExtents ended s
  | .fetchLadder ended => Sys2Proof.Machine.execFetchLadder ended s
  | .fetchPolicy ended => Sys2Proof.Machine.execFetchPolicy ended s
  | .fetchWatch ended => Sys2Proof.Machine.execFetchWatch ended s
  | .fetchDriveStatus ended => Sys2Proof.Machine.execFetchDriveStatus ended s
  | .resetPath p => Sys2Proof.Machine.execResetPath p s
  | .loadTable ended => Sys2Proof.Machine.execLoadTable ended s
  | .assignAlternate ended => Sys2Proof.Machine.execAssignAlternate ended s
  | .forceRelease ended => Sys2Proof.Machine.execForceRelease ended s
  | .directorReset ended => Sys2Proof.Machine.execDirectorReset ended s
  | .accept p frame => Sys2Proof.Machine.execAccept p frame s
  | .dataFrame p data last => Sys2Proof.Machine.execDataFrame p data last s
  | .frameSent p portFirst => Sys2Proof.Machine.execFrameSent p portFirst s
  | .endingFrameBegin p => Sys2Proof.Machine.execEndingFrameBegin p s
  | .noticeFrameBegin p => Sys2Proof.Machine.execNoticeFrameBegin p s
  | .selection d => Sys2Proof.Machine.execSelection d s
  | .stalled e => Sys2Proof.Machine.execStalled e s
  | .sectorEnd d yield => Sys2Proof.Machine.execSectorEnd d yield s
  | .relocationStart => Sys2Proof.Machine.execRelocationStart s
  | .readPassRevolutionEnd => Sys2Proof.Machine.execReadPassRevolutionEnd s
  | .trackWalkRevolutionEnd => Sys2Proof.Machine.execTrackWalkRevolutionEnd s
  | .commitBegin => Sys2Proof.Machine.execCommitBegin s
  | .verifyRevolutionEnd => Sys2Proof.Machine.execVerifyRevolutionEnd s
  | .scanPassStart d => Sys2Proof.Machine.execScanPassStart d s
  | .scanPassComplete d => Sys2Proof.Machine.execScanPassComplete d s
  | .unknownOrderCode ended => Sys2Proof.Machine.execUnknownOrderCode ended s

end Sys2Proof.Machine
end

