-- ==== Sys2Proof/Machine/Step.lean ====
section
/-! DEFINITION. One step of the director: the command at the front of the queue, or a nominal sector period when none waits. -/

namespace Sys2Proof.Machine

/-- One step. With a command waiting, the first is carried out over the queue's rest. With none, a nominal
sector period of the director's own timing passes (R13; DESIGN CHOICE, log entry 4). -/
def step (s : State) : Host.Outcome State Fault Refusal :=
  match s.pending with
  | i :: rest => exec i (s.setPending rest)
  | [] => .next s.sectorPeriod

/-- The state with the command that a word spells at the front of its queue. The table gives no row any bits, so
no word spells a command and the state stays as it is (log entry 30). -/
def State.withFetchWord (s : State) (nbits w : Nat) : State :=
  match decodeTableWord nbits w with
  | some i => s.setPending (i :: s.pending)
  | none => s

end Sys2Proof.Machine
end

