-- ==== Sys2Proof/Safety.lean ====
section
/-! DEFINITION. What a sound state of the director is, and the words in which the statements speak: the invariants, the loss of a drive, and an order that the decoder takes. -/

namespace Sys2Proof.Machine

/-! ## Invariants -/

/-- The spare map is in strictly ascending order of (drive, alternate) and holds at most 96 records (R33). -/
def State.MapSound (s : State) : Prop :=
  s.map.Pairwise (fun a b => a.before b = true) ∧ s.map.length ≤ 96

/-- The drive queues, the watch list and the relocation queue keep their bounds, the watch list names no track
twice, the relocation queue no home (R45, R46, R111, R116). -/
def State.ListsSound (s : State) : Prop :=
  (∀ d, (s.queue d).length ≤ 8 ∧ ∀ r ∈ s.queue d, r.age ≤ 15) ∧
  (s.watch.length ≤ 16 ∧ s.watch.Pairwise (fun a b => ¬(a.drive = b.drive ∧ a.track = b.track)) ∧
    ∀ e ∈ s.watch, e.score ≤ 255) ∧
  s.relocQ.length ≤ 4 ∧ s.relocQ.Pairwise fun a b => ¬(a.drive = b.drive ∧ a.home = b.home)

/-- Each raw notice set holds at most one member for a (kind, drive) (R166). -/
def State.NoticesSound (s : State) : Prop :=
  ∀ p, (s.port p).raw.Pairwise fun a b => ¬(a.kind = b.kind ∧ a.drive = b.drive)

/-- The group numbers of the host paths are 0–15, and S has none (R143). -/
def State.GroupsSound (s : State) : Prop := (∀ p, s.group p ≤ 15) ∧ s.group .s = 0

/-- The buffer is owned exactly while a relocation is active, and the map then holds exactly one PENDING record, that of
the relocation's home at its alternate; without one it holds none (R35, R120). -/
def State.RelocSound (s : State) : Prop :=
  (s.buffer.owned = true ↔ s.reloc ≠ none) ∧
  match s.reloc with
  | some r => s.map.filter (fun x => x.pendingHome ≠ none) = [⟨r.drive, r.alternate, .pending r.home⟩]
  | none => ∀ x ∈ s.map, x.pendingHome = none

/-- Two requests of the same path and tag. -/
def Request.sameKey (a b : Request) : Prop := a.path = b.path ∧ a.tag = b.tag

/-- The tags of the endings of queued requests that a port still has to send or is sending. -/
def Port.endingTags (x : Port) : List Tag :=
  (x.endings ++ x.out.filterMap fun f => match f with | .ending e => some e | _ => none).filterMap fun e =>
    if e.refusal then none else e.tag

/-- No two requests have the same path and tag, and each one's tag slot is OUTSTANDING; at most one request of a drive
is in service; a FAULTED drive has none; no two endings free the same tag slot, and that slot is ENDING (R45, R46, R18,
R20, R159). -/
def State.RequestsSound (s : State) : Prop :=
  (∀ d, ∀ r ∈ s.queue d, (s.port r.path).tags.get r.tag = .outstanding) ∧
  (∀ d, (s.queue d).Pairwise fun a b => ¬a.sameKey b ∧ ¬(a.inService = true ∧ b.inService = true)) ∧
  (∀ d e, d ≠ e → ∀ a ∈ s.queue d, ∀ b ∈ s.queue e, ¬a.sameKey b) ∧
  (∀ d, (s.monOf d).state = .faulted → s.queue d = []) ∧
  ∀ p, (s.port p).endingTags.Nodup ∧ ∀ t ∈ (s.port p).endingTags, (s.port p).tags.get t = .ending

/-- A reserved drive's group has a number and a member, and its queue holds no request of a path outside the group; a
RESERVE is queued by a path with a group only (R143, R146, R163). -/
def State.ReservationsSound (s : State) : Prop :=
  (∀ d g, s.reservedBy d = some g → g ≠ 0 ∧ (∃ p, p ≠ .s ∧ s.group p = g) ∧
    ∀ r ∈ s.queue d, r.path ≠ .s ∧ s.group r.path = g) ∧
  ∀ d, ∀ r ∈ s.queue d, r.order = .reserve → r.path ≠ .s ∧ s.group r.path ≠ 0

/-- The counters of the drive monitors and of scan control keep their ranges (Tables 1-3 and 7-1). -/
def State.CountersSound (s : State) : Prop :=
  ∀ d, (s.monOf d).sector ≤ 31 ∧ (s.monOf d).mismatch ≤ 2 ∧ (s.monOf d).seekTimer ≤ 160 ∧
    (s.monOf d).gatePulses ≤ 255 ∧ (s.scanOf d).idle ≤ 255

/-- A geometry entry lies in the ranges of Table 2-1. -/
def Geometry.Sound (g : Geometry) : Prop :=
  64 ≤ g.cyls ∧ g.cyls ≤ 1024 ∧ 1 ≤ g.heads ∧ g.heads ≤ 16 ∧ 2 ≤ g.spares ∧ g.spares ≤ 16 ∧ g.spares % 2 = 0

/-- An extent entry lies in the ranges of Table 8-3 (R156). -/
def Extent.Sound (e : Extent) : Prop :=
  e.low ≤ 1023 ∧ e.high ≤ 1023 ∧ e.group ≤ 15 ∧ (e.inUse = true → e.low ≤ e.high) ∧
    (e.cls = .fenced → 1 ≤ e.group)

/-- A policy entry lies in the ranges of Table 10-2. -/
def Policy.Sound (p : Policy) : Prop :=
  4 ≤ p.watchThreshold ∧ p.watchThreshold ≤ 255 ∧ p.agingWeight ≤ 8 ∧ 1 ≤ p.margin ∧ p.margin ≤ 3 ∧
    4 ≤ p.stallLimit ∧ p.stallLimit ≤ 31 ∧ 1 ≤ p.yieldThreshold ∧ p.yieldThreshold ≤ 15 ∧
    1 ≤ p.scanIdle ∧ p.scanIdle ≤ 255 ∧ p.poolLow ≤ 255

/-- A seek profile has at most 8 points, in their ranges and in order (R175). -/
def ProfileSound (p : List SeekPoint) : Prop :=
  p.length ≤ 8 ∧ (∀ x ∈ p, 1 ≤ x.bound ∧ x.bound ≤ 1023 ∧ 1 ≤ x.time ∧ x.time ≤ 150) ∧
    p.Pairwise fun a b => a.bound < b.bound ∧ a.time ≤ b.time

/-- The ladder has 1–16 steps, each of 1–4 rereads (R95). -/
def LadderSound (l : List LadderStep) : Prop :=
  1 ≤ l.length ∧ l.length ≤ 16 ∧ ∀ x ∈ l, 1 ≤ x.rereads ∧ x.rereads ≤ 4

/-- The extent table has 16 entries in range, and those in use overlap on no drive (R156, R177). -/
def ExtentsSound (xs : List Extent) : Prop :=
  xs.length = 16 ∧ (∀ e ∈ xs, e.Sound) ∧ xs.Pairwise fun a b => a.overlaps b = false

/-- Every table holds what a load may put in it (R24, R95, R156, R175, R178). -/
def State.TablesSound (s : State) : Prop :=
  (∀ d, (s.geom d).Sound) ∧ (∀ i, ProfileSound (s.profiles.get i)) ∧ ExtentsSound s.extents ∧
    LadderSound s.ladder ∧ s.policy.Sound

/-! ## Endings and the loss of a drive -/

/-- The ending frame of a queued request that ends with this code before its last block is done: of a READ, WRITE or
VERIFY it carries the blocks done and names the next block, the first one not done (R104, R165, Table 5-5). That any
other order's names no block is log entry 23's, and the alternate bit of a direct request's block log entry 26's. -/
def State.unfinished (s : State) (d : Drive) (r : Request) (code : Code) : Ending :=
  let moves := r.order = .read ∨ r.order = .write ∨ r.order = .verify
  ⟨some r.tag, code, false, false, some d, if moves then r.blocksDone else 0,
    if moves then some (concernedOf s.map (s.geom d) d r.direct (r.next (s.geom d))) else none, none⟩

/-- What a drive's loss does to its requests and to the ports (R20, R49, R50, R165): each request ends, the one in
service with `code`, the others DRIVE LOST. The ending of a connected request is its port's frame at once, any other
joins its path's list. A queue that held 8 gives ROOM to the marked paths. -/
def LostRequests (s u : State) (d : Drive) (code : Code) : Prop :=
  u.queue d = [] ∧
  (∀ r ∈ s.queue d, (u.port r.path).tags.get r.tag = .ending) ∧
  (∀ r ∈ s.queue d, s.connected d r.path r.tag = false →
    s.unfinished d r (if r.inService then code else .driveLost) ∈ (u.port r.path).endings) ∧
  (∀ r ∈ s.queue d, s.req? d r.path r.tag = some r → s.connected d r.path r.tag = true →
    (u.port r.path).link = .sending ∧
    (u.port r.path).out = [.ending (s.unfinished d r (if r.inService then code else .driveLost))]) ∧
  (∀ p, (∀ t, s.engine.holder ≠ some (.host d p t)) →
    (u.port p).link = (s.port p).link ∧ (u.port p).out = (s.port p).out ∧ (u.port p).rx = (s.port p).rx) ∧
  (∀ p t, (∀ r ∈ s.queue d, ¬(r.path = p ∧ r.tag = t)) → (u.port p).tags.get t = (s.port p).tags.get t) ∧
  (∀ p, (u.port p).mask = (s.port p).mask ∧ (u.port p).condition = (s.port p).condition ∧
    (u.port p).awaitRelease = (s.port p).awaitRelease) ∧
  ((s.queue d).length = 8 → ∀ p, (s.port p).awaitRoom.get d = true →
    (⟨.room, d, .none⟩ : Notice) ∈ (u.port p).raw ∧ (u.port p).awaitRoom.get d = false) ∧
  ((s.queue d).length < 8 → ∀ p, (u.port p).awaitRoom = (s.port p).awaitRoom)

/-- What a drive's loss does to the relocation on it (R130): the PENDING record is removed, the buffer freed, the watch
entries of the home no longer queued, the track walk over; a relocation on another drive stays as it is. -/
def LostRelocation (s u : State) (d : Drive) : Prop :=
  (∀ r, s.reloc = some r → r.drive = d →
    u.reloc = none ∧ u.buffer = Buffer.free ∧ u.trackWalk = none ∧
    u.map = s.map.filter (fun x => ¬(x.drive = d ∧ x.pendingHome ≠ none)) ∧
    u.watch = s.watch.map fun e => if e.drive = d ∧ u.homeOf d e.track = some r.home then
      { e with queued := false } else e) ∧
  ((∀ r, s.reloc = some r → r.drive ≠ d) →
    u.reloc = s.reloc ∧ u.buffer = s.buffer ∧ u.trackWalk = s.trackWalk ∧ u.map = s.map ∧ u.watch = s.watch)

/-- What the entry into FAULTED or OFFLINE does on every part but the monitor (R20, R21): `s` before, `u` after,
`code` the ending of the request in service, `n` the notice's detail. -/
def Lost (s u : State) (d : Drive) (code : Code) (n : Detail) : Prop :=
  LostRequests s u d code ∧ LostRelocation s u d ∧
  (∀ p, (⟨.driveFault, d, n⟩ : Notice) ∈ (u.port p).raw) ∧
  u.engineOn d = false ∧ (∀ w ∈ u.engine.candidates, w.drive ≠ d) ∧ (∀ g, u.gate = some g → g.drive ≠ d) ∧
  (∀ r, u.reloc = some r → r.drive ≠ d) ∧ u.scanOf d = ⟨0, .none, []⟩ ∧
  (∀ e, e ≠ d → u.monOf e = s.monOf e ∧ u.queue e = s.queue e ∧ u.scanOf e = s.scanOf e) ∧
  u.reserved = s.reserved ∧ u.relocQ = s.relocQ ∧ u.geometry = s.geometry ∧ u.profiles = s.profiles ∧
  u.extents = s.extents ∧ u.ladder = s.ladder ∧ u.policy = s.policy ∧ u.groups = s.groups ∧
  u.lastHost = s.lastHost ∧ u.load = s.load ∧ u.pending = s.pending ∧ u.lastWrite = s.lastWrite ∧
  u.lastRead = s.lastRead ∧ u.notes = s.notes

/-! ## Orders -/

/-- The decoder's turn, with these ports' order frames ended, falls on the frame `f` that port `p` holds (R162). -/
def State.takes (s : State) (ended : List Path) (p : Path) (f : List Byte) : Prop :=
  s.arbiter ended = some p ∧ s.heldFrame p = f

/-- The record of the last host path taken after the decoder has taken an order from `p` (R162). -/
def State.lastAfter (s : State) (p : Path) : Path := if p = .s then s.lastHost else p

/-- The command of a queued order. -/
def QOrder.command (ended : List Path) (gone : Bool) : QOrder → Instr
  | .read => .read ended
  | .write => .write ended
  | .verify => .verify ended
  | .position => .position ended
  | .reserve => .reserve ended
  | .release => .release ended
  | .recalibrate => .recalibrate ended gone

/-- The command of a fetch of a table, by its code (Table 10-1). -/
def fetchCommand (ended : List Path) : Nat → Instr
  | 1 => .fetchGeometry ended
  | 2 => .fetchProfile ended
  | 3 => .fetchSpareMap ended
  | 4 => .fetchExtents ended
  | 5 => .fetchLadder ended
  | 6 => .fetchPolicy ended
  | 7 => .fetchWatch ended
  | _ => .fetchDriveStatus ended

end Sys2Proof.Machine
end

