-- ==== Sys2Proof/WellFormed.lean ====
section
/-! DEFINITION. Which commands the lines and links can give: the operands' ranges. The meanings run on every command, well formed or not. -/

namespace Sys2Proof

/-- A sector's yield is well formed: a whole block of data (R29), and a burst or burst length that Table
5-1 of the chapter on block checking allows (R92). -/
def Yield.wf (y : Yield) : Bool :=
  y.data.length == Config.blockBytes &&
  match y.check with
  | .damageTag => true
  | .clean => true
  | .burst start len => decide (1 ≤ len ∧ len ≤ 9 ∧ start + len ≤ 8 * Config.blockBytes)
  | .uncorrectable len => len == 0 || decide (10 ≤ len ∧ len ≤ 22)

/-- A list of ports names at least one, none twice. -/
def endedWf (ended : List Path) : Bool := !ended.isEmpty && decide ended.Nodup

/-- An order frame is a frame of type 01H (R170, Table 9-7). -/
def orderFrameWf (frame : List Byte) : Bool := frame.head? == some 0x01

/-- An ACCEPT is a frame of type 02H (R170, Table 9-7). -/
def acceptWf (frame : List Byte) : Bool := frame.head? == some 0x02

/-- A data frame carries at most a block (R170). -/
def dataWf (data : List Byte) : Bool := decide (data.length ≤ Config.blockBytes)

/-- The command's operands are ones the lines and links can give. -/
def Instr.wf : Instr → Bool
  | .powerOnReset => true
  | .onlineRise _ => true
  | .onlineFall _ => true
  | .gateOpen _ _ => true
  | .gateClose _ _ => true
  | .spinCheckGiveUp _ _ => true
  | .indexPulse _ => true
  | .clockFault _ => true
  | .sectorPulse _ _ => true
  | .seekComplete _ => true
  | .seekLimit _ => true
  | .faultRise _ => true
  | .orderFrameBegin _ frame => orderFrameWf frame
  | .read ended => endedWf ended
  | .write ended => endedWf ended
  | .verify ended => endedWf ended
  | .position ended => endedWf ended
  | .reserve ended => endedWf ended
  | .release ended => endedWf ended
  | .recalibrate ended _ => endedWf ended
  | .setGroup ended => endedWf ended
  | .setNotices ended => endedWf ended
  | .clearNotices ended => endedWf ended
  | .reportCondition ended => endedWf ended
  | .fetchGeometry ended => endedWf ended
  | .fetchProfile ended => endedWf ended
  | .fetchSpareMap ended => endedWf ended
  | .fetchExtents ended => endedWf ended
  | .fetchLadder ended => endedWf ended
  | .fetchPolicy ended => endedWf ended
  | .fetchWatch ended => endedWf ended
  | .fetchDriveStatus ended => endedWf ended
  | .resetPath _ => true
  | .loadTable ended => endedWf ended
  | .assignAlternate ended => endedWf ended
  | .forceRelease ended => endedWf ended
  | .directorReset ended => endedWf ended
  | .accept _ frame => acceptWf frame
  | .dataFrame _ data _ => dataWf data
  | .frameSent _ _ => true
  | .endingFrameBegin _ => true
  | .noticeFrameBegin _ => true
  | .selection _ => true
  | .stalled (.pulse _ _) => true
  | .stalled (.index _) => true
  | .stalled (.orderFrame _ frame) => orderFrameWf frame
  | .sectorEnd _ y => y.wf
  | .relocationStart => true
  | .readPassRevolutionEnd => true
  | .trackWalkRevolutionEnd => true
  | .commitBegin => true
  | .verifyRevolutionEnd => true
  | .scanPassStart _ => true
  | .scanPassComplete _ => true
  | .unknownOrderCode ended => endedWf ended

end Sys2Proof
end

