-- ==== Sys2Proof/Certificates/Slice0/Obligations.lean ====
section
/-! DEFINITION. The statements for the provers. A state written `u.settle` is the state `u` that the command makes, after the arbiters' turn: a stopped read pass resumed (R123; PassesStartOnAnIdleDrive) and the engine granted (R71, R72; EngineIsGrantedInOrder, which also says when the turn changes nothing). -/

open Sys2Proof Sys2Proof.Machine

/-! ## The queue of commands -/

/-- A step takes the command at the front of the queue and carries it out over the queue's rest (log entry 30). -/
def Obligations.StepRunsFrontCommand : Prop :=
  ∀ (s : State) (c : Instr) (rest : List Instr), s.pending = c :: rest →
    step s = exec c { s with pending := rest }

/-- With no command waiting, a step is a nominal sector period (the model's choice of log entry 4): the seek timers of
the drives in SEEKING and RECALIBRATING rise by 1. Where none reaches 160 nothing else changes. Each drive whose timer
reaches 160 enters FAULTED with cause SEEK, its queue is empty, and DRIVE FAULT goes to every path; where that is one
drive, the step is SEEK_LIMIT on it (R13). -/
def Obligations.IdleStepAdvancesSeekTimers : Prop :=
  ∀ (s : State) (m : PerDrive Monitor), s.pending = [] →
    (∀ d, m.get d = { s.monOf d with
      seekTimer :=
        if (s.monOf d).state = .seeking ∨ (s.monOf d).state = .recalibrating then min 160 ((s.monOf d).seekTimer + 1)
        else (s.monOf d).seekTimer }) →
    let due (d : Drive) : Prop :=
      ((s.monOf d).state = .seeking ∨ (s.monOf d).state = .recalibrating) ∧ 159 ≤ (s.monOf d).seekTimer
    ((∀ d, ¬due d) → step s = .next { s with mon := m }) ∧
    (∀ d, due d → (∀ e, e ≠ d → ¬due e) → step s = exec (.seekLimit d) { s with mon := m }) ∧
    ((∃ d, due d) → ∃ u : State, step s = .next u.settle ∧
      ∀ d, (due d → u.monOf d = { m.get d with state := .faulted, cause := .seek, gateOpen := false } ∧
          u.queue d = [] ∧ ∀ p, (⟨.driveFault, d, .fault .seek⟩ : Notice) ∈ (u.port p).raw) ∧
        (¬due d → u.monOf d = m.get d ∧ u.queue d = s.queue d))

/-- Every command, in every state, answers a next state, and none of them changes the queue of waiting commands. This
is the model's own choice: that no command stops is log entry 32's, that a command without effect in a state leaves it is
log entry 2's, and the queue is log entry 30's. -/
def Obligations.EveryCommandCompletesAndKeepsTheQueue : Prop :=
  ∀ (c : Instr) (s : State), ∃ t : State, exec c s = .next t ∧ t.pending = s.pending

/-! ## Power-on reset -/

/-- Power-on reset gives every part its after-power-on value, as the tables of the manual list them; the drives'
own lines, selected heads and motions stay, with centre settings (R2; the lines by log entry 7), and so do the
waiting commands, which are the model's own (log entry 30). Of the monitor's items, whether a gate is open and the
purpose of a recalibrate are the model's (log entries 6 and 14). -/
def Obligations.PowerOnResetGivesTableValues : Prop :=
  ∀ s : State, ∃ t : State, exec .powerOnReset s = .next t ∧
    (∀ d, t.monOf d = ⟨.absent, .none, 0, 0, 0, 0, false, 0, 0, .none, 0, 0, 0, false, ⟨0, 0⟩, false, .plain⟩) ∧
    (∀ d, t.sideOf d = { s.sideOf d with offset := .none, strobe := .normal }) ∧
    (∀ d, t.queue d = [] ∧ t.scanOf d = ⟨0, .none, []⟩ ∧ t.geom d = ⟨false, 64, 1, 2, 0, false, false⟩ ∧
      t.reservedBy d = none) ∧
    t.gate = none ∧ t.engine.phase = .free ∧ t.engine.holder = none ∧ t.engine.current = none ∧
    t.engine.slot1.st = .empty ∧ t.engine.slot2.st = .empty ∧ t.engine.nextTrack = none ∧
    t.engine.merge = .none ∧ t.engine.resume = false ∧ t.engine.candidates = [] ∧
    t.walk = none ∧ t.trackWalk = none ∧ t.notes = [] ∧ t.watch = [] ∧ t.relocQ = [] ∧ t.reloc = none ∧
    t.buffer.owned = false ∧ t.buffer.blocks.length = 32 ∧ (∀ b ∈ t.buffer.blocks, b.st = .unread) ∧ t.map = [] ∧
    t.profiles.get 0 = [⟨1, 4⟩, ⟨8, 6⟩, ⟨32, 9⟩, ⟨96, 13⟩, ⟨256, 18⟩, ⟨1023, 26⟩] ∧
    (∀ i, i ≠ 0 → t.profiles.get i = []) ∧
    t.extents = List.replicate 16 ⟨false, 0, 0, 0, .readOnly, 0⟩ ∧
    t.ladder = [⟨.none, .normal, 2⟩, ⟨.none, .early, 1⟩, ⟨.none, .late, 1⟩, ⟨.inward, .normal, 1⟩,
      ⟨.outward, .normal, 1⟩, ⟨.none, .normal, 1⟩] ∧
    t.policy = ⟨24, 2, 2, 15, 4, 30, 2⟩ ∧ t.load = none ∧ (∀ p, t.group p = 0) ∧ t.lastHost = .d ∧
    (∀ p, t.port p = ⟨.free, none, [], Four.const .free, [], [], if p = .s then 0xFF else 0x0F,
      PerDrive.const false, PerDrive.const false, ⟨none, 0⟩⟩) ∧
    t.pending = s.pending

/-- The state after reset meets every invariant of the statements below. -/
def Obligations.ResetMeetsEveryInvariant : Prop :=
  State.reset.MapSound ∧ State.reset.ListsSound ∧ State.reset.NoticesSound ∧ State.reset.GroupsSound ∧
    State.reset.CountersSound ∧ State.reset.TablesSound ∧ State.reset.RelocSound ∧ State.reset.RequestsSound ∧
    State.reset.ReservationsSound

/-! ## Online line and spin check -/

/-- An online rise brings an OFFLINE drive whose profile is not empty into SPIN CHECK with the resets of R6; any
other drive's monitor stays. The first tick after that entry opens the first gate with the count 0, or 1 with the
sector line high, and in any other state changes nothing (R7; the tick as a command is log entry 6's). -/
def Obligations.SpinCheckBegins : Prop :=
  ∀ (s : State) (d : Drive), (∃ t : State, exec (.onlineRise d) s = .next t ∧
    t.sideOf d = { s.sideOf d with onlineLine := true } ∧
    t.monOf d = (if (s.monOf d).state = .offline ∧ s.profiles.get (s.geom d).profile ≠ [] then
      { s.monOf d with
        state := .spinCheck, gatePasses := 0, gateFails := 0, lastGatePassed := false, gatePulses := 0,
        mismatch := 0, indexTaken := false, cause := .none, gateOpen := false }
      else s.monOf d) ∧
    (∀ e, e ≠ d → t.monOf e = s.monOf e ∧ t.sideOf e = s.sideOf e) ∧
    t = { s with mon := t.mon, side := t.side }) ∧
    ∀ high : Bool, ∃ t : State, exec (.gateOpen d high) s = .next t ∧
    t.monOf d = (if (s.monOf d).state = .spinCheck ∧ (s.monOf d).gateOpen = false then
      { s.monOf d with gateOpen := true, gatePulses := if high then 1 else 0 } else s.monOf d) ∧
    (∀ e, e ≠ d → t.monOf e = s.monOf e) ∧ t = { s with mon := t.mon }

/-- An online fall takes a drive in an online state to OFFLINE with cause and mark check none, its other counts kept,
and does to its queue, gates, engine work, relocation and scan what R20 does; a drive in ABSENT or OFFLINE keeps its
monitor, and only the line changes. The block that an ending names is by log entries 23 and 26; that an open gate closes
is log entry 6's. -/
def Obligations.OnlineFallTakesDriveOffline : Prop :=
  ∀ (s : State) (d : Drive),
    ((s.monOf d).state ≠ .absent → (s.monOf d).state ≠ .offline →
      ∃ u : State, exec (.onlineFall d) s = .next u.settle ∧
        u.monOf d = { s.monOf d with state := .offline, cause := .none, markCheck := .none, gateOpen := false } ∧
        (u.sideOf d).onlineLine = false ∧ Lost s u d .driveLost .offline) ∧
    ((s.monOf d).state = .absent ∨ (s.monOf d).state = .offline →
      ∃ t : State, exec (.onlineFall d) s = .next t ∧ t.sideOf d = { s.sideOf d with onlineLine := false } ∧
        (∀ e, e ≠ d → t.sideOf e = s.sideOf e) ∧ t = { s with side := t.side })

/-- When a gate closes its count is judged: 188 to 196 passes, any other count fails; a second pass in a row
recalibrates; the 30th gate without it faults the drive with cause SPEED, and the row that names that outcome is the
same event (log entry 1; the gate as an item is log entry 6's); otherwise the next gate opens at once. -/
def Obligations.GateCloseJudgesTheCount : Prop :=
  ∀ (s : State) (d : Drive) (high : Bool), (s.monOf d).state = .spinCheck → (s.monOf d).gateOpen = true →
    let m := s.monOf d
    let pass := 188 ≤ m.gatePulses ∧ m.gatePulses ≤ 196
    let judged : Monitor := { m with
      gatePasses := if pass then m.gatePasses + 1 else m.gatePasses
      gateFails := if pass then m.gateFails else m.gateFails + 1
      lastGatePassed := decide pass }
    ∃ u : State, exec (.gateClose d high) s = .next u.settle ∧
      (pass → m.lastGatePassed = true →
        u.monOf d = { judged with
          gateOpen := false, state := .recalibrating, seekTimer := 0, recal := .spinCheck } ∧
        (u.sideOf d).motion = .recalibrate ∧ (∀ e, e ≠ d → u.monOf e = s.monOf e ∧ u.sideOf e = s.sideOf e) ∧
        u = { s with mon := u.mon, side := u.side }) ∧
      (¬(pass ∧ m.lastGatePassed = true) → 30 ≤ m.gatePasses + m.gateFails + 1 →
        u.monOf d = { judged with state := .faulted, cause := .speed, gateOpen := false } ∧
        Lost s u d .driveLost (.fault .speed) ∧ exec (.spinCheckGiveUp d high) s = .next u.settle) ∧
      (¬(pass ∧ m.lastGatePassed = true) → m.gatePasses + m.gateFails + 1 < 30 →
        u.monOf d = { judged with gatePulses := if high then 1 else 0 } ∧
        (∀ e, e ≠ d → u.monOf e = s.monOf e) ∧ u = { s with mon := u.mon })

/-! ## Index and sector pulses -/

/-- In every online state an index pulse sets the counter to 0 and index taken to yes, and a sector pulse keeps 0
after an index and otherwise counts up mod 32, clearing index taken; in ABSENT and OFFLINE the pulses are ignored. -/
def Obligations.SectorCounterTracksPulses : Prop :=
  ∀ (s : State) (d : Drive) (m : Mark),
    ((s.monOf d).state ≠ .absent → (s.monOf d).state ≠ .offline →
      (∃ t : State, exec (.indexPulse d) s = .next t ∧ (t.monOf d).sector = 0 ∧ (t.monOf d).indexTaken = true) ∧
      ∃ t : State, exec (.sectorPulse d m) s = .next t ∧ (t.monOf d).indexTaken = false ∧
        (t.monOf d).sector =
          if (s.monOf d).indexTaken then (s.monOf d).sector else ((s.monOf d).sector + 1) % 32) ∧
    ((s.monOf d).state = .absent ∨ (s.monOf d).state = .offline →
      exec (.indexPulse d) s = .next s.settle ∧ exec (.sectorPulse d m) s = .next s.settle)

/-- An index pulse that finds the counter at 31 clears the mismatch count and adds 1 to the idle count of a drive with
an empty queue that is READY or held by scan control (R11, R135); nothing else changes. The first mismatch sets the
counter to 0 and the mismatch count to 1, faults nothing, and counts for the idle count like any index (R10, R11, R135).
A request in service on its ORIENTING drive, or connected and RUNNING, takes a miss, below the stall limit one more in
its miss count: a recall being offered for it is withdrawn, its path and the engine FREE; a candidate stays one (log
entry 15); a connected one keeps engine, path, gate and its sector in hand, and misses with its last block in hand too
(R11, R74, R75; the last is the model's choice, log entry 62). The revolution of a pass that holds the engine is void:
the engine is FREE with no results, the gate of the drive down, the drive ORIENTING and the pass a candidate again; a
COMMIT begins its revolutions anew, a track walk's reread is not taken, and a scan's phase is CANDIDATE with no results
(R72, R103, R121, R125, R137; that a sector in hand is dropped there at once is log entry 48's). Any other drive has no
more than its counts changed, one whose transfer an EXTENTS load is stopping among them (log entry 47). -/
def Obligations.MatchingIndexClearsMismatches : Prop :=
  ∀ (s : State) (d : Drive), (s.monOf d).state ≠ .absent → (s.monOf d).state ≠ .offline →
    let idled : ScanState :=
      if s.queue d = [] ∧ ((s.monOf d).state = .ready ∨ (s.scanOf d).phase ≠ .none) then
        { s.scanOf d with idle := min 255 ((s.scanOf d).idle + 1) }
      else s.scanOf d
    ((s.monOf d).sector = 31 →
      ∃ u : State, exec (.indexPulse d) s = .next u.settle ∧
        u.monOf d = { s.monOf d with sector := 0, indexTaken := true, mismatch := 0 } ∧
        (∀ e, e ≠ d → u.monOf e = s.monOf e ∧ u.scanOf e = s.scanOf e) ∧
        u.scanOf d = idled ∧ u = { s with mon := u.mon, scans := u.scans }) ∧
    ((s.monOf d).state ≠ .faulted → (s.monOf d).sector ≠ 31 → (s.monOf d).mismatch = 0 →
      let counted : Monitor := { s.monOf d with sector := 0, indexTaken := true, mismatch := 1 }
      let others (u : State) : Prop := ∀ e, e ≠ d → u.monOf e = s.monOf e ∧ u.scanOf e = s.scanOf e
      ((∀ r, s.serving d = some r → ¬((s.monOf d).state = .orienting ∧ r.order.transfers = true) ∧
          ¬((s.monOf d).state = .transferring ∧ s.engine.holder = some (.host d r.path r.tag) ∧
            s.engine.phase = .running ∧ s.engine.stop = .none)) →
        (s.engine.stop = .none → s.engine.holder ≠ some (.reloc d) ∧ s.engine.holder ≠ some (.scan d)) →
        ∃ u : State, exec (.indexPulse d) s = .next u.settle ∧ u.monOf d = counted ∧ u.scanOf d = idled ∧ others u ∧
          u = { s with mon := u.mon, scans := u.scans }) ∧
      (∀ r, s.serving d = some r → r.missCount + 1 < s.policy.stallLimit →
        let missed (u : State) : Prop := u.monOf d = counted ∧ others u ∧
          u.queue d = (s.queue d).map (fun x => if x.path = r.path ∧ x.tag = r.tag then
            { x with missCount := x.missCount + 1 } else x) ∧
          ∀ e, e ≠ d → u.queue e = s.queue e
        let recalled := s.engine.holder = some (.host d r.path r.tag) ∧ s.engine.phase = .recalling
        ((s.monOf d).state = .orienting → r.order.transfers = true →
          (recalled → ∃ u : State, exec (.indexPulse d) s = .next u.settle ∧ missed u ∧
            u.engine = Engine.freeWith (s.engine.candidates.filter (· ≠ .host d r.path r.tag)) ∧
            u.port r.path = { s.port r.path with link := .free, out := [] } ∧
            (∀ q, q ≠ r.path → u.port q = s.port q) ∧ (∀ g, u.gate = some g → g.drive ≠ d) ∧
            u = { s with
              mon := u.mon, queues := u.queues, engine := u.engine, ports := u.ports, gate := u.gate, walk := none }) ∧
          (¬recalled → ∃ u : State, exec (.indexPulse d) s = .next u.settle ∧ missed u ∧
            u = { s with mon := u.mon, queues := u.queues })) ∧
        ((s.monOf d).state = .transferring → s.engine.holder = some (.host d r.path r.tag) →
          s.engine.phase = .running → s.engine.stop = .none →
          ∃ u : State, exec (.indexPulse d) s = .next u.settle ∧ missed u ∧
            u = { s with mon := u.mon, queues := u.queues })) ∧
      (s.engine.stop = .none → s.serving d = none →
        let void (u : State) (w : Work) : Prop := u.monOf d = { counted with state := .orienting } ∧ others u ∧
          u.engine = Engine.freeWith (s.engine.candidates.filter (·.drive ≠ d) ++ [w]) ∧
          ∀ g, u.gate = some g → g.drive ≠ d
        (s.engine.holder = some (.reloc d) →
          ∃ u : State, exec (.indexPulse d) s = .next u.settle ∧ void u (.reloc d) ∧ u.scanOf d = idled ∧
            u.reloc = s.reloc.map (fun r => { r with rev := .none }) ∧
            u.trackWalk = s.trackWalk.map (fun w => { w with left := w.left + 1 }) ∧
            u = { s with
              mon := u.mon, scans := u.scans, engine := u.engine, gate := u.gate, reloc := u.reloc
              trackWalk := u.trackWalk }) ∧
        (s.engine.holder = some (.scan d) →
          ∃ u : State, exec (.indexPulse d) s = .next u.settle ∧ void u (.scan d) ∧
            u.scanOf d = { idled with phase := .candidate, results := [] } ∧
            u = { s with mon := u.mon, scans := u.scans, engine := u.engine, gate := u.gate })))

/-- A second index mismatch in a row faults the drive with cause CLOCK, whether the command is named by the pulse or by
its outcome (log entry 1). The block that an ending names is by log entries 23 and 26. -/
def Obligations.SecondMismatchIsAClockFault : Prop :=
  ∀ (s : State) (d : Drive), (s.monOf d).state ≠ .absent → (s.monOf d).state ≠ .offline →
    (s.monOf d).state ≠ .faulted → (s.monOf d).sector ≠ 31 → 1 ≤ (s.monOf d).mismatch →
    exec (.clockFault d) s = exec (.indexPulse d) s ∧
    ∃ u : State, exec (.clockFault d) s = .next u.settle ∧
      u.monOf d = { s.monOf d with
        sector := 0, indexTaken := true, mismatch := 2, state := .faulted, cause := .clock, gateOpen := false } ∧
      Lost s u d .driveLost (.fault .clock)

/-- A sector pulse on an ORIENTING drive that begins the sector M before the target of its READ, WRITE or VERIFY,
with its path not RECEIVING and no recall or candidacy standing, makes the request a host candidate and counts no
miss (R69). -/
def Obligations.RecallPointMakesACandidate : Prop :=
  ∀ (s : State) (d : Drive) (m : Mark) (r : Request), (s.monOf d).state = .orienting → s.serving d = some r →
    r.order.transfers = true →
    (s.monOf d).nextSector = (r.target (s.geom d) + 32 - s.policy.margin) % 32 →
    (s.monOf d).nextSector ≠ r.target (s.geom d) → (s.port r.path).link ≠ .receiving →
    s.engine.holder ≠ some (.host d r.path r.tag) → Work.host d r.path r.tag ∉ s.engine.candidates →
    ∃ u : State, exec (.sectorPulse d m) s = .next u.settle ∧
      u.engine.candidates = s.engine.candidates ++ [.host d r.path r.tag] ∧ u.queues = s.queues ∧
      u = { s with mon := u.mon, engine := { s.engine with candidates := u.engine.candidates } } ∧
      ∀ e, e ≠ d → u.monOf e = s.monOf e

/-- A sector pulse that begins the target sector of an ORIENTING drive's request while its recall stands unanswered
withdraws the recall: its path is FREE, the engine is released, the request's miss count rises by 1 below the stall
limit, and the drive stays ORIENTING (R74, R75, R76). A candidate not granted when its target sector begins leaves the
list and takes that miss, the engine otherwise as it was; so does a request whose path is RECEIVING when its recall point
begins, which is not made a candidate (R70, R75). A request neither recalled nor a candidate at its target sector takes
none: it waits for its next recall point (R69). -/
def Obligations.TargetPulseBeforeAcceptIsAMiss : Prop :=
  (∀ (s : State) (d : Drive) (m : Mark) (r : Request), (s.monOf d).state = .orienting → s.serving d = some r →
    r.order.transfers = true → s.engine.holder ≠ some (.host d r.path r.tag) →
    let c := (s.monOf d).nextSector
    let w := Work.host d r.path r.tag
    let pulsed (u : State) : Prop := u.monOf d = { s.monOf d with sector := c, indexTaken := false } ∧
      ∀ e, e ≠ d → u.monOf e = s.monOf e
    let missed (u : State) : Prop :=
      u.queue d = (s.queue d).map (fun x => if x.path = r.path ∧ x.tag = r.tag then
        { x with missCount := x.missCount + 1 } else x) ∧
      ∀ e, e ≠ d → u.queue e = s.queue e
    (c = r.target (s.geom d) → w ∈ s.engine.candidates → r.missCount + 1 < s.policy.stallLimit →
      ∃ u : State, exec (.sectorPulse d m) s = .next u.settle ∧ pulsed u ∧ missed u ∧
        u.engine = { s.engine with candidates := s.engine.candidates.filter (· ≠ w) } ∧
        u = { s with mon := u.mon, engine := u.engine, queues := u.queues }) ∧
    (c ≠ r.target (s.geom d) → c = (r.target (s.geom d) + 32 - s.policy.margin) % 32 → w ∉ s.engine.candidates →
      (s.port r.path).link = .receiving → r.missCount + 1 < s.policy.stallLimit →
      ∃ u : State, exec (.sectorPulse d m) s = .next u.settle ∧ pulsed u ∧ missed u ∧
        w ∉ u.engine.candidates ∧ u = { s with mon := u.mon, queues := u.queues }) ∧
    (c = r.target (s.geom d) → w ∉ s.engine.candidates →
      ∃ u : State, exec (.sectorPulse d m) s = .next u.settle ∧ pulsed u ∧ u = { s with mon := u.mon })) ∧
  ∀ (s : State) (d : Drive) (m : Mark) (r : Request), (s.monOf d).state = .orienting → s.serving d = some r →
    r.order.transfers = true → (s.monOf d).nextSector = r.target (s.geom d) →
    s.engine.phase = .recalling → s.engine.holder = some (.host d r.path r.tag) →
    r.missCount + 1 < s.policy.stallLimit →
    ∃ u : State, exec (.sectorPulse d m) s = .next u.settle ∧
      u.queue d = (s.queue d).map (fun x => if x.path = r.path ∧ x.tag = r.tag then
        { x with missCount := x.missCount + 1 } else x) ∧
      (∀ e, e ≠ d → u.queue e = s.queue e ∧ u.monOf e = s.monOf e) ∧
      u.engine.holder = none ∧ u.engine.phase = .free ∧ Work.host d r.path r.tag ∉ u.engine.candidates ∧
      (u.port r.path).link = .free ∧ (u.monOf d).state = .orienting ∧
      u = { s with
        mon := u.mon, engine := u.engine, queues := u.queues, ports := u.ports, gate := u.gate, walk := none }

/-- The event whose miss reaches the stall limit ends its request STALLED, with its blocks done and its next block: the
frame goes out at once on a connected path and joins the path's ending list otherwise. The request leaves its queue, its
tag slot is ENDING and its drive READY. It is the same event as the pulse, index or order frame that brings it (R76; log
entry 1). After a pulse or an index the other drives and the other ports' links, lists and tags are as before. The
premise that the queue holds no other request of that path and tag before it is R45's. That a connected request ends at
once though its block is in hand at an index mismatch, its gate dropped and its drive READY, is the model's choice (log
entry 44, R76 over R11), and so is that it misses with its last block in hand (log entry 62). The block that the ending
names is by log entries 23 and 26. -/
def Obligations.StallLimitEndsTheRequest : Prop :=
  ∀ (s : State) (e : MissEvent) (d : Drive) (r : Request), s.stallsAt e = true → s.serving d = some r →
    s.req? d r.path r.tag = some r →
    (match e with
     | .pulse d' _ => d' = d
     | .index d' => d' = d
     | .orderFrame p _ => ∃ w ∈ s.engine.candidates, w.isOf p = true ∧ w.drive = d ∧ s.wouldStall d = true) →
    ∃ u : State, exec (.stalled e) s = .next u.settle ∧
      exec (.stalled e) s = (match e with
        | .pulse d' m => exec (.sectorPulse d' m) s
        | .index d' => exec (.indexPulse d') s
        | .orderFrame p f => exec (.orderFrameBegin p f) s) ∧
      (u.port r.path).tags.get r.tag = .ending ∧ (∀ x ∈ u.queue d, ¬(x.path = r.path ∧ x.tag = r.tag)) ∧
      (u.monOf d).state = .ready ∧
      (s.connected d r.path r.tag = true →
        (u.port r.path).link = .sending ∧ (u.port r.path).out = [.ending (s.unfinished d r .stalled)]) ∧
      (s.connected d r.path r.tag = false → s.unfinished d r .stalled ∈ (u.port r.path).endings) ∧
      ((∀ p f, e ≠ .orderFrame p f) →
        (∀ x, x ≠ d → u.queue x = s.queue x ∧ u.monOf x = s.monOf x ∧ u.scanOf x = s.scanOf x) ∧
        (∀ q, q ≠ r.path → (u.port q).link = (s.port q).link ∧ (u.port q).out = (s.port q).out ∧
          (u.port q).endings = (s.port q).endings ∧ (u.port q).tags = (s.port q).tags) ∧
        (u.port r.path).tags = (s.port r.path).tags.set r.tag .ending ∧ u.watch = s.watch ∧ u.map = s.map ∧
        u.reloc = s.reloc ∧ u.notes = s.notes)

/-! ## Seeks and faults -/

/-- Seek-complete. Of a drive SEEKING for a request: the cylinder becomes the target; a POSITION ends NORMAL and the
drive is READY, any other request has its drive ORIENTING with nothing else changed (R13, R16). Of a drive that the
relocation holds, or scan control with no relocation: the drive is ORIENTING at the target and the pass is offered to the
engine, the scan phase CANDIDATE (R121, R125, R137). After a completed spin check: cylinder and head 0 with head select 0,
the drive READY, DRIVE READY in the raw set of every path (R9). Of a seek that no work in service asked for any more, and
of a recalibrate with nothing further to do (R15, R22, R23, R138; its purpose is log entry 14's): the drive is READY at
the target, or at 0, with centre settings, and nothing else changes. Of the recalibrate of a RECALIBRATE that a path reset
has taken away: cylinder and head 0, the drive READY, and DRIVE READY to every path after a start from FAULTED (R23). -/
def Obligations.SeekCompleteEndsTheMotion : Prop :=
  (∀ (s : State) (d : Drive) (r : Request), (s.monOf d).state = .seeking → s.serving d = some r →
    ∃ u : State, exec (.seekComplete d) s = .next u.settle ∧
      (u.monOf d).cylinder = (s.monOf d).target ∧ (u.sideOf d).motion = .none ∧
      (∀ e, e ≠ d → u.monOf e = s.monOf e ∧ u.queue e = s.queue e ∧ u.sideOf e = s.sideOf e) ∧
      (r.order ≠ .position → (u.monOf d).state = .orienting ∧ u.queues = s.queues ∧
        u = { s with mon := u.mon, side := u.side }) ∧
      (r.order = .position → (u.monOf d).state = .ready ∧ (u.port r.path).tags.get r.tag = .ending ∧
        (∀ x ∈ u.queue d, ¬(x.path = r.path ∧ x.tag = r.tag)) ∧
        (s.engine.holder ≠ some (.host d r.path r.tag) →
          (u.port r.path).endings = (s.port r.path).endings ++
            [⟨some r.tag, .normal, false, false, some d, 0, none, none⟩]))) ∧
  (∀ (s : State) (d : Drive), (s.monOf d).state = .recalibrating → (s.monOf d).recal = .spinCheck →
    ∃ u : State, exec (.seekComplete d) s = .next u.settle ∧
      u.monOf d = { s.monOf d with state := .ready, cylinder := 0, head := 0 } ∧
      u.sideOf d = { s.sideOf d with head := 0, motion := .none, offset := .none, strobe := .normal } ∧
      (∀ p, (⟨.driveReady, d, .none⟩ : Notice) ∈ (u.port p).raw) ∧
      (∀ p, (u.port p).raw.length ≤ (s.port p).raw.length + 1 ∧
        u.port p = { s.port p with raw := (u.port p).raw }) ∧
      (∀ e, e ≠ d → u.monOf e = s.monOf e ∧ u.sideOf e = s.sideOf e) ∧
      u = { s with mon := u.mon, side := u.side, ports := u.ports }) ∧
  (∀ (s : State) (d : Drive), (s.monOf d).state = .seeking → s.serving d = none →
    let offered (w : Work) (u : State) : Prop :=
      u.monOf d = { s.monOf d with state := .orienting, cylinder := (s.monOf d).target } ∧
      u.sideOf d = { s.sideOf d with motion := .none } ∧
      u.engine = { s.engine with
        candidates := if w ∈ s.engine.candidates then s.engine.candidates else s.engine.candidates ++ [w] } ∧
      ∀ e, e ≠ d → u.monOf e = s.monOf e ∧ u.sideOf e = s.sideOf e ∧ u.scanOf e = s.scanOf e
    (∀ r, s.reloc = some r → r.drive = d → r.holds = true →
      ∃ u : State, exec (.seekComplete d) s = .next u.settle ∧ offered (.reloc d) u ∧
        u = { s with mon := u.mon, side := u.side, engine := u.engine }) ∧
    ((∀ r, s.reloc = some r → r.drive = d → r.holds = false) → (s.scanOf d).phase ≠ .none →
      ∃ u : State, exec (.seekComplete d) s = .next u.settle ∧ offered (.scan d) u ∧
        u.scanOf d = { s.scanOf d with phase := .candidate } ∧
        u = { s with mon := u.mon, side := u.side, scans := u.scans, engine := u.engine })) ∧
  ∀ (s : State) (d : Drive),
    let arrives (cyl : Nat) : Prop := ∃ u : State, exec (.seekComplete d) s = .next u.settle ∧
      u.monOf d = { s.monOf d with state := .ready, cylinder := cyl } ∧
      u.sideOf d = { s.sideOf d with motion := .none, offset := .none, strobe := .normal } ∧
      (∀ e, e ≠ d → u.monOf e = s.monOf e ∧ u.sideOf e = s.sideOf e) ∧ u = { s with mon := u.mon, side := u.side }
    ((s.monOf d).state = .seeking → s.serving d = none →
      (∀ r, s.reloc = some r → r.drive = d → r.holds = false) → (s.scanOf d).phase = .none →
      arrives (s.monOf d).target) ∧
    ((s.monOf d).state = .recalibrating → (s.monOf d).recal = .plain → arrives 0) ∧
    ((s.monOf d).state = .recalibrating → (s.monOf d).recal = .order ∨ (s.monOf d).recal = .orderFaulted →
      s.serving d = none →
      ∃ u : State, exec (.seekComplete d) s = .next u.settle ∧
        u.monOf d = { s.monOf d with state := .ready, cylinder := 0, head := 0 } ∧
        u.sideOf d = { s.sideOf d with head := 0, motion := .none, offset := .none, strobe := .normal } ∧
        (∀ p, (⟨.driveReady, d, .none⟩ : Notice) ∈ (u.port p).raw ↔
          (s.monOf d).recal = .orderFaulted ∨ (⟨.driveReady, d, .none⟩ : Notice) ∈ (s.port p).raw) ∧
        (∀ e, e ≠ d → u.monOf e = s.monOf e ∧ u.sideOf e = s.sideOf e) ∧
        (∀ p, u.port p = { s.port p with raw := (u.port p).raw }) ∧
        u = { s with mon := u.mon, side := u.side, ports := u.ports })

/-- A pass `w` holds the engine on drive `d`, with no sector in hand and no stop, and the next pulse there begins sector
`sec`. -/
def passPulse (s : State) (d : Drive) (w : Work) (sec : Nat) : Prop :=
  (s.monOf d).state = .transferring ∧ s.engine.holder = some w ∧ s.engine.hand = none ∧ s.engine.stop = .none ∧
    (s.monOf d).nextSector = sec

/-- The expectation of the marks of a physical track of drive `d`; `verify` says it is read in its verify revolution. -/
def expects (s : State) (d : Drive) (t : Track) (verify : Bool) : Expect :=
  expectation s.map (s.geom d) d t verify

/-- The pulse begins sector `sec` of a relocation's pass, which reads it: of the read pass a sector of its source track,
in a track walk one of the failing set; the CHECK sector of its COMMIT, and a sector of its verify revolution. `ph` is
the sector's address and `x` the expectation of its mark. -/
def relocReads (s : State) (d : Drive) (r : Reloc) (sec : Nat) (op : HandOp) (ph : Addr) (x : Expect) : Prop :=
  passPulse s d (.reloc d) sec ∧ s.reloc = some r ∧ s.engine.begun < 32 ∧
  ((op = .passRead ∧ r.stage = .readPass ∧ (∀ w, s.trackWalk = some w → sec ∈ w.failing) ∧
      ph = ⟨r.source.cyl, r.source.head, sec⟩ ∧ x = expects s d r.source false) ∨
    (op = .check ∧ r.stage = .commit ∧ r.rev = .check ∧ ph = ⟨r.alternate.cyl, r.alternate.head, sec⟩ ∧
      x = expects s d r.alternate false) ∨
    (op = .passRead ∧ r.stage = .commit ∧ r.rev = .verify ∧ ph = ⟨r.alternate.cyl, r.alternate.head, sec⟩ ∧
      x = expects s d r.alternate true))

/-- A mark has failed its cylinder check: engine and gate are free and the drive recalibrates, its cylinder and target
items as they were, with this mark check and this purpose. -/
def recalibrates (s u : State) (d : Drive) (c : MarkCheck) (why : Recal) : Prop :=
  u.engine.holder = none ∧ u.engine.phase = .free ∧ (∀ g, u.gate = some g → g.drive ≠ d) ∧
  (u.sideOf d).motion = .recalibrate ∧ (u.monOf d).state = .recalibrating ∧ (u.monOf d).seekTimer = 0 ∧
  (u.monOf d).cylinder = (s.monOf d).cylinder ∧ (u.monOf d).target = (s.monOf d).target ∧
  (u.monOf d).markCheck = c ∧ (u.monOf d).recal = why ∧
  ∀ e, e ≠ d → u.monOf e = s.monOf e ∧ u.queue e = s.queue e

/-- The seek limit of a drive SEEKING or RECALIBRATING faults it with cause SEEK; the request in service ends SEEK
FAULT, the others DRIVE LOST (R13, R20; that the row is taken at any reading of the timer, which it sets to 160, is log
entry 5's). Seek-complete and the limit leave a drive in any other state as it is (R13; log entry 2). The first mark a
connected READ, VERIFY or WRITE reads while the mark check stands: with its cylinder right the block is read as always
(for a WRITE see WriteBeginsAtItsSector); the first mismatch releases engine and path without an ending or a miss,
writes nothing and recalibrates, its arrival seeks the same target again, cylinder 0 as any other (the model's choice,
log entry 61), and a second mismatch ends the request SEEK FAULT and recalibrates with nothing further (R14, R15; the
purpose of a recalibrate is log entry 14's). The first mark of a relocation's or a scan's pass does the same: the first
mismatch keeps the pass in service, a scan's with its results discarded and its phase SEEKING; the second stops a read
pass in its stage with its buffer, returns a COMMIT to HELD with nothing written, and ends a scan pass (R14, R15, R125,
R137); the reread that the revolution would have been is not taken (log entry 17). The block that an ending names is by
log entries 23 and 26. -/
def Obligations.SeekLimitFaultsTheDrive : Prop :=
  (∀ (s : State) (d : Drive),
    ((s.monOf d).state = .seeking ∨ (s.monOf d).state = .recalibrating →
      ∃ u : State, exec (.seekLimit d) s = .next u.settle ∧
        u.monOf d = { s.monOf d with state := .faulted, cause := .seek, seekTimer := 160, gateOpen := false } ∧
        Lost s u d .seekFault (.fault .seek)) ∧
    ((s.monOf d).state ≠ .seeking → (s.monOf d).state ≠ .recalibrating →
      exec (.seekLimit d) s = .next s ∧ exec (.seekComplete d) s = .next s) ∧
    ((s.monOf d).state = .recalibrating → (s.monOf d).recal = .reseek →
      ∃ u : State, exec (.seekComplete d) s = .next u.settle ∧
        u.monOf d = { s.monOf d with state := .seeking, cylinder := (s.monOf d).target, seekTimer := 0 } ∧
        u.sideOf d = { s.sideOf d with head := (s.monOf d).head, motion := .seek (s.monOf d).target } ∧
        (∀ e, e ≠ d → u.monOf e = s.monOf e ∧ u.sideOf e = s.sideOf e) ∧
        u = { s with mon := u.mon, side := u.side })) ∧
  (∀ (s : State) (d : Drive) (p : Path) (t : Tag) (r : Request) (c : CurBlock) (m : Mark),
    (s.monOf d).state = .transferring → s.engine.holder = some (.host d p t) → s.engine.phase = .running →
    s.engine.hand = none → s.engine.stop = .none → s.req? d p t = some r → s.serving d = some r →
    s.engine.current = some c → c.phys.sec = (s.monOf d).nextSector → s.walk = none →
    ((r.order = .read ∨ r.order = .verify) ∧ s.engine.slot1.st = .empty ∨
      r.order = .write ∧ s.engine.fullBytes c.block ≠ none) → (s.monOf d).markCheck ≠ .none →
    let x := expectation s.map (s.geom d) d c.phys.track false
    (r.order ≠ .write → cylinderMatches x c.phys m = true →
      ∃ u : State, exec (.sectorPulse d m) s = .next u.settle ∧ (u.monOf d).markCheck = .none ∧
        (u.monOf d).state = .transferring ∧ u.gate = some ⟨d, .read⟩ ∧
        u.engine.hand = some ⟨d, c.phys, .firstRead, meets x c.phys m⟩ ∧ u.queues = s.queues) ∧
    (cylinderMatches x c.phys m = false → (s.monOf d).markCheck = .pending →
      ∃ u : State, exec (.sectorPulse d m) s = .next u.settle ∧ recalibrates s u d .reseek .reseek ∧
        u.queues = s.queues ∧ u.lastWrite = s.lastWrite ∧ u.buffer = s.buffer ∧ u.walk = none ∧
        u.port p = { s.port p with link := .free, out := [] } ∧ ∀ q, q ≠ p → u.port q = s.port q) ∧
    (cylinderMatches x c.phys m = false → (s.monOf d).markCheck = .reseek →
      ∃ u : State, exec (.sectorPulse d m) s = .next u.settle ∧ recalibrates s u d .none .plain ∧
        u.queue d = (s.queue d).filter (fun y => ¬(y.path = p ∧ y.tag = t)) ∧
        u.lastWrite = s.lastWrite ∧ u.buffer = s.buffer ∧
        (u.port p).link = .sending ∧ (u.port p).out = [.ending (s.unfinished d r .seekFault)] ∧
        (u.port p).tags = (s.port p).tags.set t .ending)) ∧
  ∀ (s : State) (d : Drive) (m : Mark) (sec : Nat) (ph : Addr) (x : Expect), cylinderMatches x ph m = false →
    let kept (u : State) : Prop := u.buffer = s.buffer ∧ u.lastWrite = s.lastWrite ∧ u.map = s.map ∧
      u.watch = s.watch ∧ u.queues = s.queues ∧ u.ports = s.ports
    (∀ r op, relocReads s d r sec op ph x →
      let uncounted := s.trackWalk.map fun w => { w with left := w.left + 1 }
      ((s.monOf d).markCheck = .pending →
        ∃ u : State, exec (.sectorPulse d m) s = .next u.settle ∧ recalibrates s u d .reseek .reseek ∧ kept u ∧
          u.trackWalk = uncounted ∧ u.reloc = some { r with rev := .none }) ∧
      ((s.monOf d).markCheck = .reseek →
        ∃ u : State, exec (.sectorPulse d m) s = .next u.settle ∧ recalibrates s u d .none .plain ∧ kept u ∧
          u.trackWalk = uncounted ∧ u.reloc = some { r with
            rev := .none, holds := false, stage := if r.stage = .commit then .held else r.stage })) ∧
    (passPulse s d (.scan d) sec → s.engine.begun < 32 →
      ph = ⟨(s.monOf d).pointer.cyl, (s.monOf d).pointer.head, sec⟩ → x = expects s d (s.monOf d).pointer false →
      ((s.monOf d).markCheck = .pending →
        ∃ u : State, exec (.sectorPulse d m) s = .next u.settle ∧ recalibrates s u d .reseek .reseek ∧ kept u ∧
          u.reloc = s.reloc ∧ u.scanOf d = { s.scanOf d with phase := .seeking, results := [] }) ∧
      ((s.monOf d).markCheck = .reseek →
        ∃ u : State, exec (.sectorPulse d m) s = .next u.settle ∧ recalibrates s u d .none .plain ∧ kept u ∧
          u.reloc = s.reloc ∧ (u.scanOf d).phase = .none ∧ (u.scanOf d).results = [] ∧
          (u.monOf d).pointer = (s.monOf d).pointer))

/-- A rise of the fault line faults a drive in any online state but FAULTED: with cause WRITE while the write gate is
raised on it, the request in service, connected or not, ending WRITE FAULT; with cause LINE and DRIVE LOST otherwise. A
drive already FAULTED keeps its cause, and an ABSENT or OFFLINE one its monitor (R19, R20). The block that an ending
names is by log entries 23 and 26. -/
def Obligations.FaultLineFaultsTheDrive : Prop :=
  ∀ (s : State) (d : Drive),
    ((s.monOf d).state ≠ .absent → (s.monOf d).state ≠ .offline → (s.monOf d).state ≠ .faulted →
      ∃ u : State, exec (.faultRise d) s = .next u.settle ∧ (u.sideOf d).faultLine = true ∧
        (s.gate = some ⟨d, .write⟩ →
          u.monOf d = { s.monOf d with state := .faulted, cause := .write, gateOpen := false } ∧
          Lost s u d .writeFault (.fault .write)) ∧
        (s.gate ≠ some ⟨d, .write⟩ →
          u.monOf d = { s.monOf d with state := .faulted, cause := .line, gateOpen := false } ∧
          Lost s u d .driveLost (.fault .line))) ∧
    ((s.monOf d).state = .absent ∨ (s.monOf d).state = .offline ∨ (s.monOf d).state = .faulted →
      ∃ t : State, exec (.faultRise d) s = .next t ∧ t.mon = s.mon ∧ t = { s with side := t.side } ∧
        t.sideOf d = { s.sideOf d with faultLine := true } ∧ ∀ e, e ≠ d → t.sideOf e = s.sideOf e)

/-! ## The engine's arbiter -/

/-- A FREE engine with an eligible host candidate whose request is in its queue goes to one such that no eligible
candidate has a higher miss count, nor an equal one on a lower drive; the winner leaves the list and its recall goes out
on its path (R71, R73). Where that path has a frame of its own waiting, either is first, by a free choice (R160; log
entry 12): its own frame takes the link and the winner stays a candidate, or the grant is made. A pass is never granted
while a host candidate, eligible or not, is in the list; without one, a FREE engine goes to a relocation pass before any
scan pass, and among scan passes to the lowest drive, whose drive becomes TRANSFERRING (R72). With no read pass stopped,
and the engine held or no candidate in the list, the arbiters' turn changes nothing. -/
def Obligations.EngineIsGrantedInOrder : Prop :=
  (∀ s : State, s.engine.phase = .free →
    (∀ d p t, Work.host d p t ∈ s.engine.candidates → ∃ r, s.req? d p t = some r) →
    (∃ w ∈ s.engine.candidates, s.eligible w = true) →
    ∃ d p t r, Work.host d p t ∈ s.engine.candidates ∧ s.req? d p t = some r ∧ (s.port p).link = .free ∧
      (∀ v ∈ s.engine.candidates, s.eligible v = true →
        s.missOf v < r.missCount ∨ (s.missOf v = r.missCount ∧ d ≤ v.drive)) ∧
      (if s.portWaits p = true ∧ Config.portFirst s.choices = true then
        Work.host d p t ∈ s.grant.engine.candidates ∧ (s.grant.port p).link = .sending ∧
        (∀ e rest, (s.port p).endings = e :: rest →
          (s.grant.port p).out = [.ending e] ∧ (s.grant.port p).endings = rest) ∧
        ((s.port p).endings = [] → ∃ n ∈ (s.port p).raw, (s.grant.port p).out = [.notice n])
      else
        s.grant.engine.holder = some (.host d p t) ∧ s.grant.engine.phase = .recalling ∧
        Work.host d p t ∉ s.grant.engine.candidates ∧
        (∀ v ∈ s.engine.candidates, v ≠ .host d p t → v ∈ s.grant.engine.candidates) ∧
        (s.grant.port p).link = .sending ∧ (s.grant.port p).out = [.recall t r.blocksDone r.resume] ∧
        (s.grant.port p).endings = (s.port p).endings ∧ (s.grant.port p).raw = (s.port p).raw) ∧
      s.grant.mon = s.mon ∧ s.grant.gate = s.gate ∧ s.grant.queues = s.queues) ∧
  (∀ s : State,
    ((∃ w ∈ s.engine.candidates, w.isHost = true) →
      ∀ w, s.grant.engine.holder = some w → w.isHost = false → s.engine.holder = some w) ∧
    (s.engine.phase = .free → (∀ w ∈ s.engine.candidates, w.isHost = false) →
      (∀ d, Work.reloc d ∈ s.engine.candidates → ∃ e, s.grant.engine.holder = some (.reloc e) ∧
        Work.reloc e ∈ s.engine.candidates ∧ (s.grant.monOf e).state = .transferring ∧
        s.grant.engine.phase = .pass) ∧
      (∀ d, (∀ e, Work.reloc e ∉ s.engine.candidates) → Work.scan d ∈ s.engine.candidates →
        ∃ e, e ≤ d ∧ s.grant.engine.holder = some (.scan e) ∧ Work.scan e ∈ s.engine.candidates ∧
          (∀ x, Work.scan x ∈ s.engine.candidates → e ≤ x) ∧ (s.grant.monOf e).state = .transferring ∧
          s.grant.engine.phase = .pass ∧ (s.grant.scanOf e).phase = .pass))) ∧
  ∀ s : State, (∀ r, s.reloc = some r → r.stage = .readPass → r.holds = true) →
    s.engine.phase ≠ .free ∨ s.engine.candidates = [] → s.settle = s

/-! ## Links and data -/

/-- An ACCEPT of two bytes that names the tag of the recall being offered on its path connects the request: path
CONNECTED, drive TRANSFERRING, engine RUNNING; a WRITE with both slots EMPTY is asked for its next block and, if
that lies on the same track and in the request, for the one after it (R74, R81; which slot is first, and their turn, are
log entry 27's). Any other frame is discarded, and so is every ACCEPT on another path, or with no recall being offered:
the engine FREE, a pass, or a request already connected, after the withdrawal of its recall for one (R74, R170). -/
def Obligations.AcceptConnectsTheRequest : Prop :=
  (∀ (s : State) (p : Path) (frame : List Byte) (d : Drive) (t : Tag) (r : Request),
    s.engine.holder = some (.host d p t) → s.engine.phase = .recalling → s.req? d p t = some r →
    ((frame.length = 2 ∧ byteAt frame 0 = 2 ∧ byteAt frame 1 = t.val) →
      ∃ u : State, exec (.accept p frame) s = .next u ∧
        u.port p = { s.port p with link := .connected, out := [] } ∧ (∀ q, q ≠ p → u.port q = s.port q) ∧
        u.monOf d = { s.monOf d with state := .transferring } ∧ (∀ e, e ≠ d → u.monOf e = s.monOf e) ∧
        u.engine.phase = .running ∧ u.engine.holder = s.engine.holder ∧ u.engine.current = s.engine.current ∧
        u.engine.candidates = s.engine.candidates ∧
        (r.order ≠ .write → u.engine = { s.engine with phase := .running }) ∧
        (r.order = .write → ∀ c, s.engine.current = some c → c.block ≤ r.last (s.geom d) →
          s.engine.slot1 = Slot.none → s.engine.slot2 = Slot.none → s.engine.turn2 = false →
          s.engine.nextTrack = none →
          u.engine.slot1 = ⟨.filling, c.block, []⟩ ∧
          u.engine.slot2 =
            if c.block + 1 ≤ r.last (s.geom d) ∧ (c.block + 1) / 32 = c.block / 32 then ⟨.filling, c.block + 1, []⟩
            else Slot.none) ∧
        u = { s with mon := u.mon, engine := u.engine, ports := u.ports }) ∧
    (¬(frame.length = 2 ∧ byteAt frame 0 = 2 ∧ byteAt frame 1 = t.val) →
      exec (.accept p frame) s = .next s) ∧
    ∀ q, q ≠ p → exec (.accept q frame) s = .next s) ∧
  ∀ (s : State) (p : Path) (frame : List Byte),
    s.engine.phase ≠ .recalling ∨ (∀ d t, s.engine.holder ≠ some (.host d p t)) → exec (.accept p frame) s = .next s

/-- A pulse on drive `d` has begun a sector of a pass: this gate is raised, this work is in hand, `n` sectors have begun,
and a sector read leaves the mark check none. Nothing else has changed. -/
def passSector (s u : State) (d : Drive) (k : GateKind) (h : Hand) (n : Nat) : Prop :=
  u.gate = some ⟨d, k⟩ ∧ u.engine = { s.engine with hand := some h, begun := n } ∧
  u.monOf d = { s.monOf d with
    sector := (s.monOf d).nextSector, indexTaken := false
    markCheck := if k = .read then .none else (s.monOf d).markCheck } ∧
  (∀ e, e ≠ d → u.monOf e = s.monOf e) ∧ u = { s with mon := u.mon, gate := u.gate, engine := u.engine }

/-- The physical track of the block after `c` of a request (R43). -/
def trackAfter (s : State) (d : Drive) (r : Request) (c : CurBlock) : Track :=
  (physOf s.map (s.geom d) d r.direct (c.block + 1)).track

/-- What the engine holds as its next track once sector `c` of a request has begun: the lookahead's answer on sector 31
with blocks left (R43, R85), as before otherwise. -/
def lookedAhead (s : State) (d : Drive) (r : Request) (c : CurBlock) : Option NextTrack :=
  if c.phys.sec = 31 ∧ c.block < r.last (s.geom d) then
    some ⟨trackAfter s d r c, decide ((trackAfter s d r c).cyl = c.phys.cyl)⟩
  else s.engine.nextTrack

/-- After block `c` on sector 31 the transfer goes on: its next track lies on the same cylinder, and no host candidate of
another drive has reached the yield threshold (R85, R86). -/
def goesOn (s : State) (d : Drive) (r : Request) (c : CurBlock) : Prop :=
  (trackAfter s d r c).cyl = c.phys.cyl ∧
    ¬∃ w ∈ s.engine.candidates, w.isHost = true ∧ w.drive ≠ d ∧ s.policy.yieldThreshold ≤ s.missOf w

/-- The block of sector 0 of the next track, as the engine's current block. -/
def onward (s : State) (d : Drive) (r : Request) (c : CurBlock) : Option CurBlock :=
  some ⟨c.block + 1, ⟨(trackAfter s d r c).cyl, (trackAfter s d r c).head, 0⟩⟩

/-- A connected READ or VERIFY at the pulse of its next block's sector, with a slot EMPTY, no walk and no mark check
standing: the read gate rises, the block is read into the slot, and the mark is judged by its expectation
(R31, R78, R80; the sector in hand and the slot's turn are the model's, log entries 16 and 27); on sector 31 with blocks
left the engine records the next track (R85). A sector that a pass reads
begins at its pulse, whichever it is: the read gate rises, the mark is judged by the pass's own expectation, one more
sector has begun, and a first mark that passes its cylinder check leaves the mark check none. So it is in the read pass,
in a track walk for the failing set alone, in a COMMIT's verify revolution and in a scan pass; the CHECK sector of a
COMMIT is read before its 32 (R72, R103, R121, R125, R127, R137). -/
def Obligations.ReadBeginsAtItsSector : Prop :=
  (∀ (s : State) (d : Drive) (p : Path) (t : Tag) (r : Request) (c : CurBlock) (m : Mark),
    (s.monOf d).state = .transferring → s.engine.holder = some (.host d p t) → s.engine.phase = .running →
    s.engine.hand = none → s.engine.stop = .none → s.req? d p t = some r → s.engine.current = some c →
    c.phys.sec = (s.monOf d).nextSector → s.walk = none → (s.monOf d).markCheck = .none →
    (r.order = .read ∨ r.order = .verify) → s.engine.slot1.st = .empty → s.engine.turn2 = false →
    s.engine.slot2.st ≠ .filling →
    ∃ u : State, exec (.sectorPulse d m) s = .next u.settle ∧ u.gate = some ⟨d, .read⟩ ∧
      u.engine.hand = some ⟨d, c.phys, .firstRead,
        meets (expectation s.map (s.geom d) d c.phys.track false) c.phys m⟩ ∧
      u.engine.slot1 = ⟨.filling, c.block, []⟩ ∧ u.engine.slot2 = s.engine.slot2 ∧
      u.engine.nextTrack = lookedAhead s d r c ∧
      u.engine.current = s.engine.current ∧ u.engine.candidates = s.engine.candidates ∧ u.queues = s.queues ∧
      u = { s with mon := u.mon, gate := u.gate, engine := u.engine }) ∧
  ∀ (s : State) (d : Drive) (m : Mark) (sec : Nat) (ph : Addr) (x : Expect),
    let passes := (s.monOf d).markCheck = .none ∨ cylinderMatches x ph m = true
    (∀ r op, relocReads s d r sec op ph x → passes →
      ∃ u : State, exec (.sectorPulse d m) s = .next u.settle ∧
        (op = .passRead → passSector s u d .read ⟨d, ph, .passRead, meets x ph m⟩ (s.engine.begun + 1)) ∧
        (op = .check → passSector s u d .read ⟨d, ph, .check, true⟩ s.engine.begun)) ∧
    (passPulse s d (.scan d) sec → s.engine.begun < 32 → passes →
      ph = ⟨(s.monOf d).pointer.cyl, (s.monOf d).pointer.head, sec⟩ → x = expects s d (s.monOf d).pointer false →
      ∃ u : State, exec (.sectorPulse d m) s = .next u.settle ∧
        passSector s u d .read ⟨d, ph, .passRead, meets x ph m⟩ (s.engine.begun + 1)) ∧
    ∀ r w, passPulse s d (.reloc d) sec → s.reloc = some r → s.engine.begun < 32 → r.stage = .readPass →
      s.trackWalk = some w → sec ∉ w.failing →
      ∃ u : State, exec (.sectorPulse d m) s = .next u.settle ∧
        u.engine = { s.engine with begun := s.engine.begun + 1 } ∧ (u.monOf d).markCheck = (s.monOf d).markCheck ∧
        (∀ e, e ≠ d → u.monOf e = s.monOf e) ∧ u = { s with mon := u.mon, engine := u.engine }

/-- A connected WRITE at the pulse of its next block's sector, with its slot FULL and the block whole or merged: the
write gate rises when the mark meets its expectation, and the block is not written when it does not (R31, R82; the
sector in hand is the model's, log entry 16). So is the first block after a seek, whose mark, read while the mark check
is PENDING or RESEEK, has its cylinder right: the mark check is then none (R14, R15; a wrong cylinder is stated in
SeekLimitFaultsTheDrive). On sector 31 with blocks left the engine records the next track and, where it lies on the same
cylinder and a slot is EMPTY, asks the path for its first block (R81, R85). A partial last block, FULL in one slot with
the other EMPTY, has its old block read first, here with the block in slot 1: the read gate rises, the merge stage is
OLD READ, and the old block goes to the other slot (R83). A reread of a WRITE MARK walk takes one of the rereads left
and becomes the last step used; the block is written where the mark meets its expectation, and withheld where it does
not, with the settings as they are (R100). Each sector of a COMMIT's write revolution has the write gate raised and is
to be written with the home's mark and the alternate flag, the buffer's block, and a computed check field, or the damage
tag for a DAMAGED block, over the bytes last read (log entry 17); one more sector has begun (R126). -/
def Obligations.WriteBeginsAtItsSector : Prop :=
  (∀ (s : State) (d : Drive) (p : Path) (t : Tag) (r : Request) (c : CurBlock) (m : Mark) (bytes : List Byte),
    (s.monOf d).state = .transferring → s.engine.holder = some (.host d p t) → s.engine.phase = .running →
    s.engine.hand = none → s.engine.stop = .none → s.req? d p t = some r → s.engine.current = some c →
    c.phys.sec = (s.monOf d).nextSector → s.walk = none → r.order = .write →
    s.engine.fullBytes c.block = some bytes →
    (c.block ≠ r.last (s.geom d) ∨ 512 ≤ r.lastBytes ∨ s.engine.merge = .merged) →
    (s.monOf d).markCheck = .none ∨ cylinderMatches (expects s d c.phys.track false) c.phys m = true →
    let met := meets (expects s d c.phys.track false) c.phys m
    ∃ u : State, exec (.sectorPulse d m) s = .next u.settle ∧
      u.monOf d = { s.monOf d with
        sector := (s.monOf d).nextSector, indexTaken := false, markCheck := .none } ∧
      (met = true → u.gate = some ⟨d, .write⟩ ∧
        u.engine.hand = some ⟨d, c.phys, .write ((s.geom d).addrOf c.block).track bytes, true⟩) ∧
      (met = false → u.gate = s.gate ∧ u.engine.hand = some ⟨d, c.phys, .markFail, false⟩) ∧
      u.engine.nextTrack = lookedAhead s d r c ∧
      (c.phys.sec = 31 → c.block < r.last (s.geom d) → s.engine.slot1 = ⟨.full, c.block, bytes⟩ →
        s.engine.slot2 = Slot.none → (trackAfter s d r c).cyl = c.phys.cyl →
        u.engine.slot1 = s.engine.slot1 ∧ u.engine.slot2 = ⟨.filling, c.block + 1, []⟩) ∧
      u.queues = s.queues ∧ u.lastWrite = s.lastWrite ∧ u.buffer = s.buffer ∧
      u = { s with mon := u.mon, gate := u.gate, engine := u.engine }) ∧
  (∀ (s : State) (d : Drive) (p : Path) (t : Tag) (r : Request) (c : CurBlock) (m : Mark) (bytes : List Byte),
    (s.monOf d).state = .transferring → s.engine.holder = some (.host d p t) → s.engine.phase = .running →
    s.engine.hand = none → s.engine.stop = .none → s.req? d p t = some r → s.engine.current = some c →
    c.phys.sec = (s.monOf d).nextSector → s.walk = none → r.order = .write →
    s.engine.slot1 = ⟨.full, c.block, bytes⟩ → s.engine.slot2 = Slot.none → c.block = r.last (s.geom d) →
    r.lastBytes < 512 → s.engine.merge = .none →
    (s.monOf d).markCheck = .none ∨ cylinderMatches (expects s d c.phys.track false) c.phys m = true →
    ∃ u : State, exec (.sectorPulse d m) s = .next u.settle ∧ u.gate = some ⟨d, .read⟩ ∧
      (u.monOf d).markCheck = .none ∧
      u.engine.hand = some ⟨d, c.phys, .firstRead, meets (expects s d c.phys.track false) c.phys m⟩ ∧
      u.engine.merge = .oldRead ∧ u.engine.slot1 = s.engine.slot1 ∧ u.engine.slot2 = ⟨.filling, c.block, []⟩ ∧
      u = { s with mon := u.mon, gate := u.gate, engine := u.engine }) ∧
  (∀ (s : State) (d : Drive) (p : Path) (t : Tag) (r : Request) (c : CurBlock) (m : Mark) (bytes : List Byte)
    (w : BlockWalk),
    (s.monOf d).state = .transferring → s.engine.holder = some (.host d p t) → s.engine.phase = .running →
    s.engine.hand = none → s.engine.stop = .none → s.req? d p t = some r → s.engine.current = some c →
    c.phys.sec = (s.monOf d).nextSector → s.walk = some w → w.kind = .writeMark →
    s.engine.fullBytes c.block = some bytes →
    let met := meets (expectation s.map (s.geom d) d c.phys.track false) c.phys m
    ∃ u : State, exec (.sectorPulse d m) s = .next u.settle ∧ u.walk = some { w with left := w.left - 1 } ∧
      (∃ n, u.note? p t = some n ∧ n.lastStep = w.step) ∧
      (met = true → u.gate = some ⟨d, .write⟩ ∧ u.engine = { s.engine with
        hand := some ⟨d, c.phys, .write ((s.geom d).addrOf c.block).track bytes, true⟩ }) ∧
      (met = false → u.gate = s.gate ∧ u.engine = { s.engine with hand := some ⟨d, c.phys, .markFail, false⟩ }) ∧
      u = { s with mon := u.mon, gate := u.gate, engine := u.engine, walk := u.walk, notes := u.notes }) ∧
  ∀ (s : State) (d : Drive) (r : Reloc) (m : Mark) (sec : Nat) (b : BufBlock), passPulse s d (.reloc d) sec →
    s.reloc = some r → r.stage = .commit → r.rev = .write → s.engine.begun < 32 → s.buffer.blocks[sec]? = some b →
    let ph : Addr := ⟨r.alternate.cyl, r.alternate.head, sec⟩
    let mark : Mark := ⟨BitVec.ofNat 10 r.home.cyl, BitVec.ofNat 4 r.home.head, BitVec.ofNat 5 sec, true⟩
    let out : WriteOut := ⟨d, ph, some mark, b.bytes, if b.st = .damaged then .damageTag else .computed⟩
    ∃ u : State, exec (.sectorPulse d m) s = .next u.settle ∧
      passSector s u d .write ⟨d, ph, .passWrite out, true⟩ (s.engine.begun + 1)

/-- A sector whose staging slots are not ready is a miss with the engine held: a READ with both slots FULL, a WRITE
whose block is not FULL. The count rises by 1 below the stall limit, the gates stay as they are and nothing is
taken in hand (R75, R79, R82). The premise that the request in service is the connected one is R45's. -/
def Obligations.UnreadySlotsMissTheSector : Prop :=
  ∀ (s : State) (d : Drive) (p : Path) (t : Tag) (r : Request) (c : CurBlock) (m : Mark),
    (s.monOf d).state = .transferring → s.engine.holder = some (.host d p t) → s.engine.phase = .running →
    s.engine.hand = none → s.engine.stop = .none → s.req? d p t = some r → s.serving d = some r →
    s.engine.current = some c → c.phys.sec = (s.monOf d).nextSector → s.walk = none →
    ((r.order = .read ∧ s.engine.slot1.st = .full ∧ s.engine.slot2.st = .full) ∨
      (r.order = .write ∧ s.engine.fullBytes c.block = none)) →
    r.missCount + 1 < s.policy.stallLimit →
    ∃ u : State, exec (.sectorPulse d m) s = .next u.settle ∧ u.gate = s.gate ∧ u.engine = s.engine ∧
      u.queue d = (s.queue d).map (fun x => if x.path = r.path ∧ x.tag = r.tag then
        { x with missCount := x.missCount + 1 } else x) ∧
      (∀ e, e ≠ d → u.queue e = s.queue e ∧ u.monOf e = s.monOf e) ∧ (u.monOf d).state = .transferring ∧
      u = { s with mon := u.mon, queues := u.queues }

/-- The drive's only request `r`, holding the engine, has ended with this code, one more block done and this block
concerned: its frame closes the connection at once, its tag slot is ENDING, the engine FREE with both slots EMPTY, and the
drive READY (R87, R165). -/
def endedWith (s u : State) (d : Drive) (r : Request) (code : Code) (block : Option Concerned) : Prop :=
  u.queue d = [] ∧ (u.port r.path).link = .sending ∧
  (u.port r.path).out = [.ending ⟨some r.tag, code, false, false, some d, r.blocksDone + 1, block, none⟩] ∧
  (u.port r.path).tags = (s.port r.path).tags.set r.tag .ending ∧
  (u.port r.path).endings = (s.port r.path).endings ∧
  u.engine.holder = none ∧ u.engine.phase = .free ∧ u.engine.slot1 = Slot.none ∧ u.engine.slot2 = Slot.none ∧
  (u.monOf d).state = .ready ∧ u.reserved = s.reserved ∧
  (∀ e, e ≠ d → u.queue e = s.queue e ∧ u.monOf e = s.monOf e)

/-- The drive's only request `r`, holding the engine, has ended with its last block counted and the code of its outcome
so far; RECOVERED, it names the note's block (R87, R165; log entry 42). -/
def endedTransfer (s u : State) (d : Drive) (r : Request) : Prop :=
  endedWith s u d r
    (match r.outcome with | .none => .normal | .corrected => .corrected | .recovered => .recovered)
    (if r.outcome = .none then none else (s.note? r.path r.tag).bind (·.block))

/-- A READ's block that reads CLEAN on its first read, neither the last nor on sector 31: at the sector's end the read
gate drops, the FILLING slot is FULL with the block as read, and the next block is the next sector's; nothing is
reported or counted yet (R78; the sector in hand is the model's, log entry 16). A VERIFY's such block is done at once
and its slot EMPTY, and its last block ends the request by its outcome so far (R80, R87); a RECOVERED ending names the
note's block, a block just corrected on its first read too (the model's choice, log entry 42). The old block of a merge
takes the new leading last-block bytes: one slot holds the merged block, the other is EMPTY, and the block waits for its
write (R83). A VERIFY's block and a merge's new bytes are in slot 1 here. A CORRECTABLE block goes the same way with its
burst corrected; the outcome so far becomes CORRECTED if it was none, the note takes block and burst, and the track is
reported with weight 1 (R93, R94, R104, R112). After a READ's last block its slot is FULL and the engine DRAINING toward
its end (R78). After sector 31 with blocks left a READ or VERIFY goes on at sector 0 of the next track when that lies on
the same cylinder and no host candidate of another drive has reached the yield threshold; the next track item is none
then (log entry 46). Otherwise a READ drains toward a continuation, its current block none (log entry 45), and a VERIFY
waits again as one of age 15, its tag kept, engine and path FREE and the drive READY (R62, R85, R86). A sector that a
pass has read is judged by R91 and joins its results, a relocation's with its block, corrected if CORRECTABLE; its gate
drops and nothing is weighed (R121, R127, R137). -/
def Obligations.CleanBlockIsOfferedToThePath : Prop :=
  (∀ (s : State) (d : Drive) (r : Request) (c : CurBlock) (y : Yield),
    s.engine.hand = some ⟨d, c.phys, .firstRead, true⟩ → s.engine.stop = .none → s.serving d = some r →
    s.engine.current = some c → r.order = .read → y.check = .clean → c.block ≠ r.last (s.geom d) →
    c.phys.sec ≠ 31 →
    ∃ u : State, exec (.sectorEnd d y) s = .next u.settle ∧
      u.gate = (if (s.gate.map (·.drive)) = some d then none else s.gate) ∧
      u.engine = { s.engine with
        hand := none
        slot1 := if s.engine.slot1.st = .filling then ⟨.full, c.block, block512 y.data⟩ else s.engine.slot1
        slot2 := if s.engine.slot2.st = .filling then ⟨.full, c.block, block512 y.data⟩ else s.engine.slot2
        current := some ⟨c.block + 1, ⟨c.phys.cyl, c.phys.head, c.phys.sec + 1⟩⟩ } ∧
      u = { s with gate := u.gate, engine := u.engine }) ∧
  (∀ (s : State) (d : Drive) (r : Request) (c : CurBlock) (y : Yield),
    s.engine.hand = some ⟨d, c.phys, .firstRead, true⟩ → s.engine.stop = .none → s.serving d = some r →
    s.engine.current = some c → y.check = .clean →
    (r.order = .verify → c.block ≠ r.last (s.geom d) → c.phys.sec ≠ 31 → s.engine.slot1 = ⟨.filling, c.block, []⟩ →
      s.engine.slot2 = Slot.none →
      ∃ u : State, exec (.sectorEnd d y) s = .next u.settle ∧
        u.queue d = (s.queue d).map (fun x => if x.path = r.path ∧ x.tag = r.tag then
          { x with blocksDone := x.blocksDone + 1 } else x) ∧
        u.engine = { s.engine with
          hand := none, slot1 := Slot.none
          current := some ⟨c.block + 1, ⟨c.phys.cyl, c.phys.head, c.phys.sec + 1⟩⟩ } ∧
        (∀ e, e ≠ d → u.queue e = s.queue e) ∧
        u = { s with gate := u.gate, engine := u.engine, queues := u.queues }) ∧
    (r.order = .verify → c.block = r.last (s.geom d) → s.queue d = [r] →
      s.engine.holder = some (.host d r.path r.tag) → s.engine.phase = .running →
      ∃ u : State, exec (.sectorEnd d y) s = .next u.settle ∧ endedTransfer s u d r) ∧
    (∀ bytes, r.order = .write → s.engine.slot1 = ⟨.full, c.block, bytes⟩ →
      s.engine.slot2 = ⟨.filling, c.block, []⟩ →
      ∃ u : State, exec (.sectorEnd d y) s = .next u.settle ∧
        u.engine = { s.engine with
          hand := none, merge := .merged, slot1 := Slot.none
          slot2 := ⟨.full, c.block, bytes.take r.lastBytes ++ (block512 y.data).drop r.lastBytes⟩ } ∧
        u = { s with gate := u.gate, engine := u.engine })) ∧
  (∀ (s : State) (d : Drive) (r : Request) (c : CurBlock) (y : Yield) (start len : Nat),
    s.engine.hand = some ⟨d, c.phys, .firstRead, true⟩ → s.engine.stop = .none → s.serving d = some r →
    s.engine.current = some c → y.check = .burst start len →
    let next : Option CurBlock := some ⟨c.block + 1, ⟨c.phys.cyl, c.phys.head, c.phys.sec + 1⟩⟩
    let raised (x : Request) : Request := { x with outcome := if x.outcome = .none then .corrected else x.outcome }
    let corrected (u : State) (f : Request → Request) : Prop :=
      u.queue d = (s.queue d).map (fun x => if x.path = r.path ∧ x.tag = r.tag then f (raised x) else x) ∧
      (∀ e, e ≠ d → u.queue e = s.queue e) ∧
      (∃ n, u.note? r.path r.tag = some n ∧ n.burst = len ∧
        n.block = some (concernedOf s.map (s.geom d) d r.direct c.block)) ∧
      u.watch = (s.report d c.phys.track 1).watch ∧ u.relocQ = (s.report d c.phys.track 1).relocQ ∧
      u.ports = (s.report d c.phys.track 1).ports ∧
      u = { s with
        gate := u.gate, engine := u.engine, queues := u.queues, notes := u.notes, watch := u.watch
        relocQ := u.relocQ, ports := u.ports }
    (r.order = .read → c.block ≠ r.last (s.geom d) → c.phys.sec ≠ 31 →
      ∃ u : State, exec (.sectorEnd d y) s = .next u.settle ∧ corrected u (fun x => x) ∧
        u.engine = { s.engine with
          hand := none, current := next
          slot1 := if s.engine.slot1.st = .filling then ⟨.full, c.block, readBytes y⟩ else s.engine.slot1
          slot2 := if s.engine.slot2.st = .filling then ⟨.full, c.block, readBytes y⟩ else s.engine.slot2 }) ∧
    (r.order = .verify → c.block ≠ r.last (s.geom d) → c.phys.sec ≠ 31 →
      s.engine.slot1 = ⟨.filling, c.block, []⟩ → s.engine.slot2 = Slot.none →
      ∃ u : State, exec (.sectorEnd d y) s = .next u.settle ∧
        corrected u (fun x => { x with blocksDone := x.blocksDone + 1 }) ∧
        u.engine = { s.engine with hand := none, current := next, slot1 := Slot.none }) ∧
    ∀ bytes, r.order = .write → s.engine.slot1 = ⟨.full, c.block, bytes⟩ →
      s.engine.slot2 = ⟨.filling, c.block, []⟩ →
      ∃ u : State, exec (.sectorEnd d y) s = .next u.settle ∧ corrected u (fun x => x) ∧
        u.engine = { s.engine with
          hand := none, merge := .merged, slot1 := Slot.none
          slot2 := ⟨.full, c.block, bytes.take r.lastBytes ++ (readBytes y).drop r.lastBytes⟩ }) ∧
  (∀ (s : State) (d : Drive) (r : Request) (c : CurBlock) (y : Yield),
    s.engine.hand = some ⟨d, c.phys, .firstRead, true⟩ → s.engine.stop = .none → s.serving d = some r →
    s.engine.current = some c → (y.check = .clean ∨ ∃ start len, y.check = .burst start len) →
    let head := (trackAfter s d r c).head
    let filling := s.engine.slot1.st = .filling ∨ s.engine.slot2.st = .filling
    let full (x : Slot) : Slot := if x.st = .filling then ⟨.full, c.block, readBytes y⟩ else x
    let requests (u : State) (f : Request → Request) : Prop :=
      u.queue d = (s.queue d).map (fun x => if x.path = r.path ∧ x.tag = r.tag then
        f { x with outcome := if y.check ≠ .clean ∧ x.outcome = .none then .corrected else x.outcome } else x) ∧
      ∀ e, e ≠ d → u.queue e = s.queue e
    let ended (u : State) : Prop := (∀ g, u.gate = some g → g.drive ≠ d) ∧ (∀ e, e ≠ d → u.monOf e = s.monOf e) ∧
      (y.check = .clean → u = { s with
        gate := u.gate, engine := u.engine, queues := u.queues, mon := u.mon, side := u.side, ports := u.ports })
    let drains (u : State) (goal : Drain) : Prop := ended u ∧ requests u (fun x => x) ∧
      u.engine = { s.engine with
        hand := none, slot1 := full s.engine.slot1, slot2 := full s.engine.slot2, phase := .draining
        current := none, drain := goal } ∧
      u.mon = s.mon ∧ u.side = s.side ∧ (y.check = .clean → u.ports = s.ports)
    let turns (u : State) : Prop := ended u ∧ u.monOf d = { s.monOf d with head := head } ∧
      u.sideOf d = { s.sideOf d with head := head } ∧ (∀ e, e ≠ d → u.sideOf e = s.sideOf e) ∧
      (y.check = .clean → u.ports = s.ports)
    (r.order = .read → c.block = r.last (s.geom d) → filling →
      ∃ u : State, exec (.sectorEnd d y) s = .next u.settle ∧ drains u .finish) ∧
    (r.order = .verify → c.block = r.last (s.geom d) → s.queue d = [r] → y.check ≠ .clean →
      s.engine.holder = some (.host d r.path r.tag) → s.engine.phase = .running →
      ∃ u : State, exec (.sectorEnd d y) s = .next u.settle ∧
        endedWith s u d r (if r.outcome = .recovered then .recovered else .corrected)
          (some (concernedOf s.map (s.geom d) d r.direct c.block))) ∧
    (r.order = .read → c.block ≠ r.last (s.geom d) → c.phys.sec = 31 →
      (goesOn s d r c → ∃ u : State, exec (.sectorEnd d y) s = .next u.settle ∧ turns u ∧ requests u (fun x => x) ∧
        u.engine = { s.engine with
          hand := none, slot1 := full s.engine.slot1, slot2 := full s.engine.slot2, current := onward s d r c
          nextTrack := none }) ∧
      (¬goesOn s d r c → filling → ∃ u : State, exec (.sectorEnd d y) s = .next u.settle ∧ drains u .carryOn)) ∧
    (r.order = .verify → c.block ≠ r.last (s.geom d) → c.phys.sec = 31 →
      s.engine.slot1 = ⟨.filling, c.block, []⟩ → s.engine.slot2 = Slot.none →
      (goesOn s d r c → ∃ u : State, exec (.sectorEnd d y) s = .next u.settle ∧ turns u ∧
        requests u (fun x => { x with blocksDone := x.blocksDone + 1 }) ∧
        u.engine = { s.engine with hand := none, slot1 := Slot.none, current := onward s d r c, nextTrack := none }) ∧
      (¬goesOn s d r c → s.engine.holder = some (.host d r.path r.tag) → s.engine.phase = .running →
        ∃ u : State, exec (.sectorEnd d y) s = .next u.settle ∧ ended u ∧
          requests u (fun x => { x with
            blocksDone := x.blocksDone + 1, inService := false, continuation := true, age := 15 }) ∧
          u.engine = Engine.freeWith (s.engine.candidates.filter (· ≠ .host d r.path r.tag)) ∧
          (u.port r.path).link = .free ∧ (u.port r.path).out = [] ∧ (u.port r.path).tags = (s.port r.path).tags ∧
          (u.port r.path).endings = (s.port r.path).endings ∧
          (y.check = .clean → ∀ q, q ≠ r.path → u.port q = s.port q) ∧
          u.monOf d = { s.monOf d with state := .ready } ∧
          u.sideOf d = { s.sideOf d with offset := .none, strobe := .normal }))) ∧
  ∀ (s : State) (d : Drive) (ph : Addr) (met : Bool) (y : Yield) (o : ReadOutcome),
    s.engine.hand = some ⟨d, ph, .passRead, met⟩ → s.engine.stop = .none →
    ((met = false ∧ o = .mismatch) ∨
      (met = true ∧ ((y.check = .damageTag ∧ o = .damaged) ∨ (y.check = .clean ∧ o = .clean) ∨
        ((∃ start len, y.check = .burst start len) ∧ o = .correctable) ∨
        ((∃ len, y.check = .uncorrectable len) ∧ o = .uncorrectable)))) →
    let ended (u : State) : Prop := (∀ g, u.gate = some g → g.drive ≠ d) ∧ u.watch = s.watch ∧
      u.buffer = s.buffer ∧ u = { s with gate := u.gate, engine := u.engine, scans := u.scans }
    (∀ e, s.engine.holder = some (.reloc e) →
      ∃ u : State, exec (.sectorEnd d y) s = .next u.settle ∧ ended u ∧ u.scans = s.scans ∧
        u.engine = { s.engine with
          hand := none
          results := s.engine.results ++ [⟨ph.sec, o, if o = .correctable then readBytes y else block512 y.data⟩] }) ∧
    ∀ e, s.engine.holder = some (.scan e) →
      ∃ u : State, exec (.sectorEnd d y) s = .next u.settle ∧ ended u ∧
        u.scanOf d = { s.scanOf d with results := (s.scanOf d).results ++ [o] } ∧
        (∀ x, x ≠ d → u.scanOf x = s.scanOf x) ∧ u.engine = { s.engine with hand := none }

/-- A failed first read starts a walk: the ladder in force is copied, step 1 with its rereads and settings, a note made;
no block goes to the path and nothing is weighed (R96). Before each reread the rereads left fall by 1 and the note takes
the step as last step used. A reread that fails with rereads left changes neither step nor settings; with none left the
next step follows with its settings; past the last step the request ends DATA CHECK naming the block (R97, R99, R101).
DAMAGED, on the first read or a reread, ends it DAMAGED without further rereads, or DATA CHECK for the old block of a
merge (R84, R99). A write whose mark failed starts a walk of its mark, never off track centre, and a mark that fails
again goes on like a reread, the block left unwritten (R100). Exhaustion is reported with weight 16 (R112). A reread
that is fit recovers its block: outcome so far RECOVERED, the note's block and burst, centre settings, weight 4 (R98,
R112). The block goes on as a first read that was fit: a READ's is offered to the path, a VERIFY's is done, its last
ending it RECOVERED, and a merge's old block is overlaid (R101); a last block of a READ, or one of sector 31 that does
not go on, drains (R85, R86; log entries 45 and 46). An ending is stated for a drive's only request; a READ with a block
left to take drains first, and ends once the path has taken it (R99, TakenBlockIsDone). A VERIFY's block and a merge's
new bytes are in slot 1 here; the alternate bit of a direct request's block is log entry 26's. -/
def Obligations.FailedFirstReadStartsAWalk : Prop :=
  (∀ (s : State) (d : Drive) (r : Request) (c : CurBlock) (y : Yield) (met : Bool) (x : LadderStep),
    s.engine.hand = some ⟨d, c.phys, .firstRead, met⟩ → s.engine.stop = .none → s.serving d = some r →
    s.engine.current = some c → (met = false ∨ ∃ n, y.check = .uncorrectable n) → s.ladder[0]? = some x →
    ∃ u : State, exec (.sectorEnd d y) s = .next u.settle ∧
      u.walk = some ⟨.readBlock, d, r.path, r.tag, concernedOf s.map (s.geom d) d r.direct c.block, s.ladder, 1,
        x.rereads⟩ ∧
      u.sideOf d = { s.sideOf d with offset := x.offset, strobe := x.strobe } ∧
      (∃ n ∈ u.notes, n.path = r.path ∧ n.tag = r.tag) ∧
      ((∀ n ∈ s.notes, ¬(n.path = r.path ∧ n.tag = r.tag)) →
        u.notes = s.notes ++ [⟨r.path, r.tag, 0, 0, none⟩]) ∧
      u.engine = { s.engine with hand := none } ∧ u.queues = s.queues ∧ u.watch = s.watch ∧ u.ports = s.ports) ∧
  (∀ (s : State) (d : Drive) (p : Path) (t : Tag) (r : Request) (c : CurBlock) (m : Mark) (w : BlockWalk),
    (s.monOf d).state = .transferring → s.engine.holder = some (.host d p t) → s.engine.phase = .running →
    s.engine.hand = none → s.engine.stop = .none → s.req? d p t = some r → s.engine.current = some c →
    c.phys.sec = (s.monOf d).nextSector → s.walk = some w → w.kind = .readBlock →
    ∃ u : State, exec (.sectorPulse d m) s = .next u.settle ∧ u.walk = some { w with left := w.left - 1 } ∧
      (∃ n, u.note? p t = some n ∧ n.lastStep = w.step) ∧ u.gate = some ⟨d, .read⟩ ∧
      u.engine = { s.engine with hand := some ⟨d, c.phys, .reread,
        meets (expectation s.map (s.geom d) d c.phys.track false) c.phys m⟩ } ∧
      u = { s with mon := u.mon, gate := u.gate, engine := u.engine, walk := u.walk, notes := u.notes }) ∧
  ∀ (s : State) (d : Drive) (r : Request) (c : CurBlock) (y : Yield) (met : Bool) (w : BlockWalk) (op : HandOp),
    s.engine.hand = some ⟨d, c.phys, op, met⟩ → s.engine.stop = .none → s.serving d = some r →
    s.engine.current = some c →
    let failed : Prop := s.walk = some w ∧
      ((op = .reread ∧ w.kind = .readBlock ∧ (met = false ∨ ∃ n, y.check = .uncorrectable n)) ∨
        (op = .markFail ∧ w.kind = .writeMark))
    let damaged : Prop := met = true ∧ y.check = .damageTag ∧ (op = .firstRead ∨ (op = .reread ∧ s.walk = some w))
    let ends (code : Code) (weight : Nat) : Prop := s.queue d = [r] → s.engine.holder = some (.host d r.path r.tag) →
      s.engine.phase = .running → (r.order = .read → s.engine.slot1.st ≠ .full ∧ s.engine.slot2.st ≠ .full) →
      (r.order = .read ∨ r.order = .verify ∨ r.order = .write) →
      ∃ u : State, exec (.sectorEnd d y) s = .next u.settle ∧ u.queue d = [] ∧
        (u.port r.path).link = .sending ∧
        (u.port r.path).out = [.ending ⟨some r.tag, code, false, false, some d, r.blocksDone,
          some (concernedOf s.map (s.geom d) d r.direct c.block), none⟩] ∧
        u.walk = none ∧ (u.sideOf d).offset = .none ∧ (u.sideOf d).strobe = .normal ∧ u.engine.holder = none ∧
        u.engine.phase = .free ∧ (u.monOf d).state = .ready ∧ u.lastWrite = s.lastWrite ∧
        u.watch = (s.report d c.phys.track weight).watch
    let waits (code : Code) (weight : Nat) : Prop := r.order = .read →
      s.engine.slot1.st = .full ∨ s.engine.slot2.st = .full →
      let kept (x : Slot) : Slot := if x.st = .filling then Slot.none else x
      ∃ u : State, exec (.sectorEnd d y) s = .next u.settle ∧ u.queues = s.queues ∧ u.walk = none ∧
        (u.sideOf d).offset = .none ∧ (u.sideOf d).strobe = .normal ∧
        u.engine = { s.engine with
          hand := none, slot1 := kept s.engine.slot1, slot2 := kept s.engine.slot2, phase := .draining
          current := none, drain := .fail code (concernedOf s.map (s.geom d) d r.direct c.block) } ∧
        u.mon = s.mon ∧ u.watch = (s.report d c.phys.track weight).watch
    (failed → 0 < w.left →
      ∃ u : State, exec (.sectorEnd d y) s = .next u.settle ∧ u.walk = s.walk ∧ u.side = s.side ∧
        u.engine = { s.engine with hand := none } ∧ u.queues = s.queues ∧ u.ports = s.ports ∧
        u.lastWrite = s.lastWrite ∧ u.watch = s.watch) ∧
    (∀ x, failed → w.left = 0 → w.ladder[w.step]? = some x →
      ∃ u : State, exec (.sectorEnd d y) s = .next u.settle ∧
        u.walk = some { w with step := w.step + 1, left := x.rereads } ∧
        u.sideOf d = { s.sideOf d with
          offset := if w.kind = .writeMark then .none else x.offset, strobe := x.strobe } ∧
        u.engine = { s.engine with hand := none } ∧ u.queues = s.queues ∧ u.ports = s.ports ∧
        u.lastWrite = s.lastWrite ∧ u.watch = s.watch) ∧
    (failed → w.left = 0 → w.ladder[w.step]? = none → ends .dataCheck 16 ∧ waits .dataCheck 16) ∧
    (damaged → r.order ≠ .write → ends .damaged 0 ∧ waits .damaged 0) ∧
    (damaged → r.order = .write → ends .dataCheck 0) ∧
    (∀ x, op = .markFail → s.walk = none → s.ladder[0]? = some x →
      ∃ u : State, exec (.sectorEnd d y) s = .next u.settle ∧
        u.walk = some ⟨.writeMark, d, r.path, r.tag, concernedOf s.map (s.geom d) d r.direct c.block, s.ladder, 1,
          x.rereads⟩ ∧
        u.sideOf d = { s.sideOf d with offset := .none, strobe := x.strobe } ∧
        u.engine = { s.engine with hand := none } ∧ u.queues = s.queues ∧ u.lastWrite = s.lastWrite) ∧
    (∀ start len, op = .reread → s.walk = some w → met = true →
      (y.check = .clean ∧ len = 0 ∨ y.check = .burst start len) →
      let recovers (u : State) (f : Request → Request) : Prop := u.walk = none ∧
        (u.sideOf d).offset = .none ∧ (u.sideOf d).strobe = .normal ∧
        u.queue d = (s.queue d).map (fun x => if x.path = r.path ∧ x.tag = r.tag then
          f { x with outcome := .recovered } else x) ∧
        (∃ n, u.note? r.path r.tag = some n ∧ n.burst = len ∧
          n.block = some (concernedOf s.map (s.geom d) d r.direct c.block)) ∧
        u.watch = (s.report d c.phys.track 4).watch
      let full (x : Slot) : Slot := if x.st = .filling then ⟨.full, c.block, readBytes y⟩ else x
      let filling := s.engine.slot1.st = .filling ∨ s.engine.slot2.st = .filling
      let next : Option CurBlock :=
        if c.phys.sec = 31 then onward s d r c
        else some ⟨c.block + 1, ⟨c.phys.cyl, c.phys.head, c.phys.sec + 1⟩⟩
      let nextTrack : Option NextTrack := if c.phys.sec = 31 then none else s.engine.nextTrack
      let sameTrack := c.phys.sec ≠ 31 ∨ goesOn s d r c
      (r.order = .read → c.block ≠ r.last (s.geom d) → sameTrack →
        ∃ u : State, exec (.sectorEnd d y) s = .next u.settle ∧ recovers u (fun x => x) ∧
          u.engine = { s.engine with
            hand := none, slot1 := full s.engine.slot1, slot2 := full s.engine.slot2, current := next
            nextTrack := nextTrack }) ∧
      (r.order = .read → c.block = r.last (s.geom d) ∨ ¬sameTrack → filling →
        ∃ u : State, exec (.sectorEnd d y) s = .next u.settle ∧ recovers u (fun x => x) ∧
          u.engine = { s.engine with
            hand := none, slot1 := full s.engine.slot1, slot2 := full s.engine.slot2, phase := .draining
            current := none, drain := if c.block = r.last (s.geom d) then .finish else .carryOn }) ∧
      (r.order = .verify → c.block ≠ r.last (s.geom d) → sameTrack → s.engine.slot1 = ⟨.filling, c.block, []⟩ →
        s.engine.slot2 = Slot.none →
        ∃ u : State, exec (.sectorEnd d y) s = .next u.settle ∧
          recovers u (fun x => { x with blocksDone := x.blocksDone + 1 }) ∧
          u.engine = { s.engine with hand := none, slot1 := Slot.none, current := next, nextTrack := nextTrack }) ∧
      (r.order = .verify → c.block = r.last (s.geom d) → s.queue d = [r] →
        s.engine.holder = some (.host d r.path r.tag) → s.engine.phase = .running →
        ∃ u : State, exec (.sectorEnd d y) s = .next u.settle ∧
          endedWith s u d r .recovered (some (concernedOf s.map (s.geom d) d r.direct c.block))) ∧
      ∀ bytes, r.order = .write → s.engine.slot1 = ⟨.full, c.block, bytes⟩ →
        s.engine.slot2 = ⟨.filling, c.block, []⟩ →
        ∃ u : State, exec (.sectorEnd d y) s = .next u.settle ∧ recovers u (fun x => x) ∧
          u.engine = { s.engine with
            hand := none, merge := .merged, slot1 := Slot.none
            slot2 := ⟨.full, c.block, bytes.take r.lastBytes ++ (readBytes y).drop r.lastBytes⟩ })

/-- A located burst is corrected by inverting its bits and no others, bit 0 being the most significant bit of the
first byte (R93; the numbering is log entry 9's). -/
def Obligations.CorrectionInvertsTheBurst : Prop :=
  ∀ (y : Yield) (start len i k : Nat) (b b' : Byte), y.check = .burst start len → k < 8 →
    (block512 y.data)[i]? = some b → (readBytes y)[i]? = some b' →
    b'.getLsbD (7 - k) = (b.getLsbD (7 - k) != decide (start ≤ 8 * i + k ∧ 8 * i + k < start + len))

/-- A whole write that completes, neither the last block nor on sector 31, with no walk: the block went out with a
computed check field and without its mark, the request's blocks done rise by 1, its slot is EMPTY, the next block is the
next sector's, and the track buffer takes a copy exactly when the logical track is the home of the active relocation on
this drive (R82, R124; the sector in hand and the output are the model's, log entries 16 and 25). The last block ends
the request by its outcome so far (R87); a RECOVERED ending names the note's block, a merge's old block corrected after
the recovery too (the model's choice, log entry 42). After sector 31 with blocks left, the transfer goes on at sector 0
of the next track when that lies on the same cylinder and no host candidate of another drive has reached the yield
threshold; the next track item is none then (log entry 46). Otherwise the request waits again as a continuation of age
15 with its tag kept, the engine and the path are FREE, and the drive is READY (R62, R85, R86). The write of a WRITE
MARK walk recovers its block as well: outcome so far RECOVERED, the note's block with burst length 0, centre settings,
weight 4; its last block ends the request RECOVERED (R87, R98, R100, R112). A sector of a COMMIT's write revolution went
out as it was to be written, with its mark, and nothing is copied; after the 32nd the verify revolution begins with no
results; the end of the CHECK sector brings the write revolution (R125, R126, R127). -/
def Obligations.CompletedWriteIsDoneAndCopied : Prop :=
  (∀ (s : State) (d : Drive) (r : Request) (c : CurBlock) (y : Yield) (logical : Track) (bytes : List Byte),
    s.engine.hand = some ⟨d, c.phys, .write logical bytes, true⟩ → s.engine.stop = .none → s.serving d = some r →
    s.engine.current = some c → r.order = .write → s.walk = none → c.block ≠ r.last (s.geom d) →
    c.phys.sec ≠ 31 →
    ∃ u : State, exec (.sectorEnd d y) s = .next u.settle ∧
      u.lastWrite = some ⟨d, c.phys, none, bytes, .computed⟩ ∧
      u.queue d = (s.queue d).map (fun x => if x.path = r.path ∧ x.tag = r.tag then
        { x with blocksDone := x.blocksDone + 1 } else x) ∧
      (∀ e, e ≠ d → u.queue e = s.queue e) ∧
      u.engine.current = some ⟨c.block + 1, ⟨c.phys.cyl, c.phys.head, c.phys.sec + 1⟩⟩ ∧ u.engine.hand = none ∧
      u.engine.fullBytes c.block = none ∧
      (∀ rl, s.reloc = some rl → rl.drive = d → rl.home = logical →
        u.buffer = { s.buffer with blocks := s.buffer.blocks.set c.phys.sec ⟨.good, bytes⟩ }) ∧
      ((∀ rl, s.reloc = some rl → rl.drive = d → rl.home ≠ logical) → u.buffer = s.buffer) ∧
      u.mon = s.mon ∧ u.ports = s.ports ∧ u.map = s.map ∧ u.watch = s.watch) ∧
  (∀ (s : State) (d : Drive) (r : Request) (c : CurBlock) (y : Yield) (logical : Track) (bytes : List Byte),
    s.engine.hand = some ⟨d, c.phys, .write logical bytes, true⟩ → s.engine.stop = .none → s.serving d = some r →
    s.engine.current = some c → r.order = .write → s.walk = none →
    s.engine.holder = some (.host d r.path r.tag) → s.engine.phase = .running →
    (c.block = r.last (s.geom d) → s.queue d = [r] →
      ∃ u : State, exec (.sectorEnd d y) s = .next u.settle ∧ endedTransfer s u d r ∧
        u.lastWrite = some ⟨d, c.phys, none, bytes, .computed⟩) ∧
    (c.block ≠ r.last (s.geom d) → c.phys.sec = 31 →
      let t := (physOf s.map (s.geom d) d r.direct (c.block + 1)).track
      let yields := ∃ w ∈ s.engine.candidates, w.isHost = true ∧ w.drive ≠ d ∧ s.policy.yieldThreshold ≤ s.missOf w
      ∃ u : State, exec (.sectorEnd d y) s = .next u.settle ∧
        u.lastWrite = some ⟨d, c.phys, none, bytes, .computed⟩ ∧
        (t.cyl = c.phys.cyl → ¬yields →
          (u.sideOf d).head = t.head ∧ (u.monOf d).head = t.head ∧ u.engine.holder = s.engine.holder ∧
          u.engine.phase = .running ∧ u.engine.current = some ⟨c.block + 1, ⟨t.cyl, t.head, 0⟩⟩ ∧
          u.engine.nextTrack = none ∧ u.ports = s.ports ∧
          u.queue d = (s.queue d).map (fun x => if x.path = r.path ∧ x.tag = r.tag then
            { x with blocksDone := x.blocksDone + 1 } else x)) ∧
        (t.cyl ≠ c.phys.cyl ∨ yields →
          u.queue d = (s.queue d).map (fun x => if x.path = r.path ∧ x.tag = r.tag then
            { x with blocksDone := x.blocksDone + 1, inService := false, continuation := true, age := 15 } else x) ∧
          u.engine.holder = none ∧ u.engine.phase = .free ∧ u.engine.current = none ∧
          u.engine.nextTrack = none ∧ u.engine.resume = false ∧ u.engine.slot1 = Slot.none ∧
          u.engine.slot2 = Slot.none ∧ u.port r.path = { s.port r.path with link := .free, out := [] } ∧
          (∀ q, q ≠ r.path → u.port q = s.port q) ∧ (∀ g, u.gate = some g → g.drive ≠ d) ∧
          u.monOf d = { s.monOf d with state := .ready }))) ∧
  (∀ (s : State) (d : Drive) (r : Request) (c : CurBlock) (y : Yield) (logical : Track) (bytes : List Byte)
    (w : BlockWalk),
    s.engine.hand = some ⟨d, c.phys, .write logical bytes, true⟩ → s.engine.stop = .none → s.serving d = some r →
    s.engine.current = some c → r.order = .write → s.walk = some w → c.block ≠ r.last (s.geom d) →
    c.phys.sec ≠ 31 →
    ∃ u : State, exec (.sectorEnd d y) s = .next u.settle ∧
      u.lastWrite = some ⟨d, c.phys, none, bytes, .computed⟩ ∧
      u.queue d = (s.queue d).map (fun x => if x.path = r.path ∧ x.tag = r.tag then
        { x with blocksDone := x.blocksDone + 1, outcome := .recovered } else x) ∧
      (∀ e, e ≠ d → u.queue e = s.queue e) ∧ u.walk = none ∧
      u.sideOf d = { s.sideOf d with offset := .none, strobe := .normal } ∧
      (∃ n, u.note? r.path r.tag = some n ∧ n.burst = 0 ∧
        n.block = some (concernedOf s.map (s.geom d) d r.direct c.block)) ∧
      u.engine.current = some ⟨c.block + 1, ⟨c.phys.cyl, c.phys.head, c.phys.sec + 1⟩⟩ ∧ u.engine.hand = none ∧
      u.engine.fullBytes c.block = none ∧ u.watch = (s.report d c.phys.track 4).watch ∧
      (∀ rl, s.reloc = some rl → rl.drive = d → rl.home = logical →
        u.buffer = { s.buffer with blocks := s.buffer.blocks.set c.phys.sec ⟨.good, bytes⟩ }) ∧
      ((∀ rl, s.reloc = some rl → rl.drive = d → rl.home ≠ logical) → u.buffer = s.buffer) ∧ u.mon = s.mon) ∧
  (∀ (s : State) (d : Drive) (r : Request) (c : CurBlock) (y : Yield) (logical : Track) (bytes : List Byte),
    s.engine.hand = some ⟨d, c.phys, .write logical bytes, true⟩ → s.engine.stop = .none → s.serving d = some r →
    s.engine.current = some c → r.order = .write → s.walk.isSome = true → c.block = r.last (s.geom d) →
    s.queue d = [r] → s.engine.holder = some (.host d r.path r.tag) → s.engine.phase = .running →
    ∃ u : State, exec (.sectorEnd d y) s = .next u.settle ∧
      endedWith s u d r .recovered (some (concernedOf s.map (s.geom d) d r.direct c.block)) ∧
      u.lastWrite = some ⟨d, c.phys, none, bytes, .computed⟩ ∧ u.watch = (s.report d c.phys.track 4).watch ∧
      u.walk = none) ∧
  ∀ (s : State) (d : Drive) (ph : Addr) (met : Bool) (y : Yield),
    (∀ out, s.engine.hand = some ⟨d, ph, .passWrite out, met⟩ → s.engine.stop = .none →
      ∃ u : State, exec (.sectorEnd d y) s = .next u.settle ∧ u.lastWrite = some out ∧
        (∀ g, u.gate = some g → g.drive ≠ d) ∧
        (s.engine.begun = 32 → u.engine = { s.engine with hand := none, begun := 0, results := [] } ∧
          u.reloc = s.reloc.map fun r => { r with rev := .verify }) ∧
        (s.engine.begun ≠ 32 → u.engine = { s.engine with hand := none } ∧ u.reloc = s.reloc) ∧
        u = { s with gate := u.gate, engine := u.engine, reloc := u.reloc, lastWrite := u.lastWrite }) ∧
    (s.engine.hand = some ⟨d, ph, .check, met⟩ → s.engine.stop = .none →
      ∃ u : State, exec (.sectorEnd d y) s = .next u.settle ∧ (∀ g, u.gate = some g → g.drive ≠ d) ∧
        u.engine = { s.engine with hand := none } ∧ (u.reloc = s.reloc.map fun r => { r with rev := .write }) ∧
        u = { s with gate := u.gate, engine := u.engine, reloc := u.reloc })

/-- The bytes of a connected WRITE's block, arriving whole, make its slot FULL and change nothing else; a data frame on
a path with neither a connection nor a load has no effect (R77, R81, R173). The block is in slot 1 here, the
lower-numbered FILLING one. -/
def Obligations.DataFrameFillsTheSlot : Prop :=
  ∀ (s : State) (p : Path) (data : List Byte) (last : Bool),
    (∀ (d : Drive) (t : Tag) (r : Request), s.engine.holder = some (.host d p t) → s.engine.phase = .running →
      s.req? d p t = some r → r.order = .write → s.engine.merge ≠ .oldRead → s.engine.slot1.st = .filling →
      s.engine.slot1.bytes = [] →
      (s.engine.slot2.st = .filling → s.engine.slot1.block < s.engine.slot2.block) →
      data.length = r.bytesOf (s.geom d) s.engine.slot1.block →
      exec (.dataFrame p data last) s = .next { s with
        engine := { s.engine with slot1 := ⟨.full, s.engine.slot1.block, data⟩ } }) ∧
    ((∀ d t, s.engine.holder ≠ some (.host d p t)) → (s.load = none ∨ p ≠ .s) →
      exec (.dataFrame p data last) s = .next s)

/-- The test of R157 over the blocks of a host request from number `first` on, against the extents of `u`: it gives
FENCED when a touching FENCED entry fails, else READ ONLY when a touching READ-ONLY entry does. -/
def extentFails (s u : State) (d : Drive) (r : Request) (first : Nat) (code : Code) : Prop :=
  let g := s.geom d
  let touching (e : Extent) : Prop := e ∈ u.extents ∧ e.inUse = true ∧ e.drive = d ∧
    e.low ≤ (g.addrOf (r.last g)).cyl ∧ (g.addrOf first).cyl ≤ e.high
  let fenced := ∃ e, touching e ∧ e.cls = .fenced ∧ e.group ≠ s.group r.path
  let readOnly := ∃ e, touching e ∧ e.cls = .readOnly ∧ (e.group = 0 ∨ s.group r.path ≠ e.group)
  (r.order = .read ∨ r.order = .write ∨ r.order = .verify) ∧ first ≤ r.last g ∧
    ((code = .fenced ∧ fenced) ∨ (code = .readOnly ∧ ¬fenced ∧ r.order = .write ∧ readOnly))

/-- The sector in hand has ended under a stop: the engine is FREE with both slots EMPTY, the gate of `d` down and the
drive READY with centre settings. A block being written went out, a host's with the offer to relocation control; one
being read left nothing. -/
def stopEnded (s u : State) (d : Drive) (h : Hand) : Prop :=
  u.engine.holder = none ∧ u.engine.phase = .free ∧ u.engine.hand = none ∧ u.engine.slot1 = Slot.none ∧
  u.engine.slot2 = Slot.none ∧ u.engine.stop = .none ∧ (∀ g, u.gate = some g → g.drive ≠ d) ∧
  u.monOf d = { s.monOf d with state := .ready } ∧
  u.sideOf d = { s.sideOf d with offset := .none, strobe := .normal } ∧
  (∀ e, e ≠ d → u.monOf e = s.monOf e ∧ u.queue e = s.queue e) ∧ u.watch = s.watch ∧
  (∀ logical bytes, h.op = .write logical bytes →
    u.lastWrite = some ⟨d, h.phys, none, bytes, .computed⟩ ∧
    (∀ rl, s.reloc = some rl → rl.drive = d → rl.home = logical →
      u.buffer = { s.buffer with blocks := s.buffer.blocks.set h.phys.sec ⟨.good, bytes⟩ }) ∧
    ((∀ rl, s.reloc = some rl → rl.drive = d → rl.home ≠ logical) → u.buffer = s.buffer)) ∧
  (∀ out, h.op = .passWrite out → u.lastWrite = some out ∧ u.buffer = s.buffer) ∧
  ((∀ logical bytes, h.op ≠ .write logical bytes) → (∀ out, h.op ≠ .passWrite out) →
    u.lastWrite = s.lastWrite ∧ u.buffer = s.buffer)

/-- The last data byte of a load on S: a load with a fault changes no table and no other state but the answer TABLE
INVALID on S, naming the entry at fault (that this is a refusal is log entry 31's; of what is at fault, log entries 22,
28, 43 and 60 settle points). A load without one is taken whole and ends NORMAL: GEOMETRY with its drives made OFFLINE
or ABSENT and a scan pass on them abandoned, the idle count kept, or 0 on a drive made ABSENT (R5, R139, R174; the 0 of
a drive held by scan control is log entry 55's), PROFILE with the spin checks it lets begin (R6, R175), SPARE MAP, whose
ending carries no drive (log entry 59), with the drive's records replaced and its watch entries tested (R39, R132,
R176), EXTENTS with the requests of host paths retested over their blocks not begun (R158, R177), LADDER and POLICY
(R95, R178). Data that is not the last is kept for the load (R173). A transfer that EXTENTS stops has its staging slots
EMPTY and its walk ended at the load (log entries 49 and 50), and the code is this load's, whatever stop stood (the
model's choice, log entry 40); at the end of the sector in hand a block being written completes and is counted, one
being read is not, and the request ends with its code on its connection, the drive READY (R158). A failing request that
is a drive's only one ends at once where it is not connected or has no sector in hand: connected, its engine is FREE,
its drive READY and the mark check as it was (log entry 57), its staged blocks tested with the rest (log entry 58), and
so its block under a walk between rereads and a merged block that waits (the model's choice, log entry 39); ORIENTING,
its drive is READY, a recall of it withdrawn and its candidacy gone; a seek goes on, and a recalibrate after a mark
mismatch with nothing further, the mark check none (R23, R158). -/
def Obligations.LoadIsTakenWholeOrNotAtAll : Prop :=
  (∀ (s : State) (j : LoadJob) (data : List Byte), s.load = some j → (s.port .s).link = .receiving →
    (s.port .s).rx = none → (∀ d t, s.engine.holder ≠ some (.host d .s t)) →
    let bytes := j.data ++ data
    let taken := s.loadFault { j with data := bytes } = none
    let normal : Port := { s.port .s with
      link := .sending, rx := none, out := [.ending ⟨none, .normal, false, false, none, 0, none, none⟩] }
    let named (i : Nat) : Prop := j.first ≤ i ∧ i < j.first + j.count
    exec (.dataFrame .s data false) s = .next { s with load := some { j with data := j.data ++ data } } ∧
    (∀ e, s.loadFault { j with data := j.data ++ data } = some e →
      exec (.dataFrame .s data true) s = .next (State.settle { s with
        load := none
        ports := s.ports.set .s { s.port .s with
          link := .sending, rx := none
          out := [.ending ⟨none, .tableInvalid, true, false, none, 0, none, e⟩] } })) ∧
    (j.table = 1 → taken → ∃ u : State, exec (.dataFrame .s data true) s = .next u.settle ∧
      (∀ i, i < j.count → geometryOf (entryAt bytes 8 i) = some (u.geom (driveNo (j.first + i)))) ∧
      (∀ x : Drive, ¬named x.val → u.geom x = s.geom x) ∧
      (∀ x, u.geom x = s.geom x → u.monOf x = s.monOf x ∧ u.scanOf x = s.scanOf x) ∧
      (∀ x, u.geom x ≠ s.geom x → (u.geom x).present = false →
        u.monOf x = { Monitor.initial with pointer := (s.monOf x).pointer } ∧
        (∀ e ∈ u.watch, e.drive ≠ x) ∧ ∀ e ∈ u.relocQ, e.drive ≠ x) ∧
      (∀ x, u.geom x ≠ s.geom x → (u.scanOf x).phase = .none ∧
        (u.scanOf x).idle = if (u.geom x).present = true then (s.scanOf x).idle else 0) ∧
      (∀ x, u.geom x ≠ s.geom x → (u.geom x).present = true → (s.monOf x).state = .absent →
        (s.scanOf x).phase = .none → (u.monOf x).state =
          if (s.sideOf x).onlineLine = true ∧ s.profiles.get (u.geom x).profile ≠ [] then .spinCheck else .offline) ∧
      u.ports = s.ports.set .s normal ∧ u.load = none ∧ u.queues = s.queues ∧ u.map = s.map ∧ u.reloc = s.reloc ∧
      u.profiles = s.profiles ∧ u.extents = s.extents ∧ u.ladder = s.ladder ∧ u.policy = s.policy ∧
      u.reserved = s.reserved) ∧
    (j.table = 2 → taken → ∃ u : State, exec (.dataFrame .s data true) s = .next u.settle ∧
      (∀ i, i < j.count → profileOf (entryAt bytes 25 i) = some (u.profiles.get (Fin.ofNat 4 (j.first + i)))) ∧
      (∀ k : Fin 4, ¬named k.val → u.profiles.get k = s.profiles.get k) ∧
      (∀ x, let k := (s.geom x).profile
        u.monOf x = if (s.geom x).present = true ∧ u.profiles.get k ≠ s.profiles.get k ∧ u.profiles.get k ≠ [] ∧
          (s.monOf x).state = .offline ∧ (s.sideOf x).onlineLine = true then
          { s.monOf x with
            state := .spinCheck, gatePasses := 0, gateFails := 0, lastGatePassed := false, gatePulses := 0,
            mismatch := 0, indexTaken := false, cause := .none, gateOpen := false }
          else s.monOf x) ∧
      u = { s with profiles := u.profiles, mon := u.mon, load := none, ports := s.ports.set .s normal }) ∧
    (∀ rs, j.table = 3 → taken → loadedRecords (driveNo j.first) bytes = some rs →
      let x := driveNo j.first
      ∃ u : State, exec (.dataFrame .s data true) s = .next u.settle ∧
        u.map = s.map.filter (fun r => r.drive < x) ++ rs ++ s.map.filter (fun r => x < r.drive) ∧
        (∀ e, e.drive ≠ x → (e ∈ u.watch ↔ e ∈ s.watch)) ∧
        (∀ e ∈ u.watch, e.drive = x → u.weighs x e.track = true ∧ e.unrelocatable = false ∧
          ∃ o ∈ s.watch, o.drive = x ∧ o.track = e.track ∧ o.score = e.score) ∧
        u.ports = s.ports.set .s normal ∧ u.load = none ∧ u.queues = s.queues ∧ u.reloc = s.reloc ∧
        u.relocQ = s.relocQ ∧ u.geometry = s.geometry ∧ (∀ e, e ≠ x → u.monOf e = s.monOf e)) ∧
    (j.table = 4 → taken → ∃ u : State, exec (.dataFrame .s data true) s = .next u.settle ∧
      u.extents.length = s.extents.length ∧ u.load = none ∧ (u.port .s).link = .sending ∧
      (u.port .s).out = normal.out ∧ u.geometry = s.geometry ∧ u.map = s.map ∧ u.reserved = s.reserved ∧
      (∀ i, i < j.count → j.first + i < s.extents.length →
        u.extents[j.first + i]? = extentOf (entryAt bytes 8 i)) ∧
      (∀ i, ¬named i → u.extents[i]? = s.extents[i]?) ∧
      (∀ x r, s.req? x r.path r.tag = some r → r.path ≠ .s → r.inService = false →
        s.engine.holder ≠ some (.host x r.path r.tag) →
        ((∀ code, ¬extentFails s u x r (r.next (s.geom x)) code) → r ∈ u.queue x) ∧
        ∀ code, extentFails s u x r (r.next (s.geom x)) code →
          (∀ y ∈ u.queue x, ¬(y.path = r.path ∧ y.tag = r.tag)) ∧
          (u.port r.path).tags.get r.tag = .ending ∧ s.unfinished x r code ∈ (u.port r.path).endings) ∧
      (∀ x r c lg bs met code, s.req? x r.path r.tag = some r → r.path ≠ .s → r.inService = true →
        s.engine.holder = some (.host x r.path r.tag) → s.engine.phase = .running →
        s.engine.current = some c → s.engine.hand = some ⟨x, c.phys, .write lg bs, met⟩ →
        extentFails s u x r (c.block + 1) code →
        u.engine.stop = .ending code ∧ u.engine.hand = s.engine.hand ∧ u.engine.slot1 = Slot.none ∧
          u.engine.slot2 = Slot.none ∧ u.walk = none ∧ r ∈ u.queue x) ∧
      (∀ x r code, s.queue x = [r] → r.path ≠ .s → r.inService = true → s.engine.hand = none →
        extentFails s u x r (r.next (s.geom x)) code →
        let ours := s.engine.holder = some (.host x r.path r.tag)
        let connected := ours ∧ (s.engine.phase = .running ∨ s.engine.phase = .draining)
        u.queue x = [] ∧ (u.port r.path).tags.get r.tag = .ending ∧ Work.host x r.path r.tag ∉ u.engine.candidates ∧
        (connected → (u.port r.path).link = .sending ∧ (u.port r.path).out = [.ending (s.unfinished x r code)] ∧
          u.engine.holder = none ∧ u.engine.phase = .free ∧ u.engine.slot1 = Slot.none ∧ u.engine.slot2 = Slot.none ∧
          (∀ g, u.gate = some g → g.drive ≠ x) ∧ u.walk = none ∧ u.monOf x = { s.monOf x with state := .ready } ∧
          u.sideOf x = { s.sideOf x with offset := .none, strobe := .normal }) ∧
        (¬connected → s.unfinished x r code ∈ (u.port r.path).endings ∧
          ((s.monOf x).state = .orienting → u.monOf x = { s.monOf x with state := .ready, markCheck := .none } ∧
            (ours → s.engine.phase = .recalling → u.engine.holder = none ∧ (u.port r.path).link = .free)) ∧
          ((s.monOf x).state = .seeking → u.monOf x = { s.monOf x with markCheck := .none } ∧
            u.sideOf x = s.sideOf x) ∧
          ((s.monOf x).state = .recalibrating → (s.monOf x).recal = .reseek →
            u.monOf x = { s.monOf x with recal := .plain, markCheck := .none } ∧ u.sideOf x = s.sideOf x)))) ∧
    (∀ xs : List LadderStep, j.table = 5 → taken →
      (List.range j.count).map (fun i => ladderStepOf (entryAt bytes 3 i)) = xs.map some →
      exec (.dataFrame .s data true) s = .next (State.settle { s with
        ladder := xs, load := none, ports := s.ports.set .s normal })) ∧
    (∀ x, j.table = 6 → s.loadFault { j with data := j.data ++ data } = none →
      policyOf (j.data ++ data) = some x →
      exec (.dataFrame .s data true) s = .next (State.settle { s with
        policy := x
        load := none
        ports := s.ports.set .s { s.port .s with
          link := .sending, rx := none, out := [.ending ⟨none, .normal, false, false, none, 0, none, none⟩] } }))) ∧
  ∀ (s : State) (d : Drive) (r : Request) (h : Hand) (code : Code) (y : Yield), s.engine.hand = some h →
    h.drive = d → s.engine.stop = .ending code → s.engine.holder = some (.host d r.path r.tag) →
    s.engine.phase = .running → s.queue d = [r] → r.inService = true →
    let written := ∃ logical bytes, h.op = .write logical bytes
    ∃ u : State, exec (.sectorEnd d y) s = .next u.settle ∧ u.queue d = [] ∧ (u.port r.path).link = .sending ∧
      (written → (u.port r.path).out = [.ending (s.unfinished d { r with blocksDone := r.blocksDone + 1 } code)]) ∧
      (¬written → (u.port r.path).out = [.ending (s.unfinished d r code)]) ∧
      (u.port r.path).tags = (s.port r.path).tags.set r.tag .ending ∧ stopEnded s u d h

/-- A block of a connected READ that the path has taken is done: it went out in a data frame, of the request's last
block its leading last-block bytes only (R26, R78, R170; the output is the model's, log entry 25); the lower-numbered
FULL slot, here slot 1, is EMPTY and the blocks done rise by 1; nothing else changes while the engine is RUNNING, or
DRAINING with another slot FULL (R77, R78). With the last block left of a READ that drains toward a continuation, the
request waits again with its tag kept, in arrival order where it was, not in service, a continuation of age 15; the
engine is FREE with both slots EMPTY, the gate down, the path FREE with no frame, and the drive READY (R62, R85). With
the last one left of a READ that drains because a later block could not be read, the request ends with that block's code
(R99). When it is the READ's last block, the request ends by its outcome so far with every block counted: the ending
frame closes the connection at once, the tag slot is ENDING, the engine FREE with both slots EMPTY, and the drive READY
(R87, R165; why the engine is DRAINING is the model's item, log entry 18); a RECOVERED ending names the note's block, a
later block corrected on its first read too (the model's choice, log entry 42). With the reserve-if-clean flag, an
outcome other than RECOVERED, and a path of a group on a drive not reserved by another, the drive is then reserved by
that group and the frame's reserved item is yes; otherwise it is no and the reservation stays (R155). The premise that
the queue holds no other request is the ending's clause's alone. -/
def Obligations.TakenBlockIsDone : Prop :=
  (∀ (s : State) (d : Drive) (p : Path) (t : Tag) (r : Request) (portFirst : Bool),
    (s.port p).link = .connected → s.engine.holder = some (.host d p t) → s.engine.phase = .draining →
    s.engine.drain = .carryOn → s.req? d p t = some r → r.order = .read →
    s.engine.slot1.st = .full → s.engine.slot2.st = .empty →
    ∃ u : State, exec (.frameSent p portFirst) s = .next u.settle ∧
      u.queue d = (s.queue d).map (fun x => if x.path = p ∧ x.tag = t then
        { x with blocksDone := x.blocksDone + 1, inService := false, continuation := true, age := 15 } else x) ∧
      (∀ e, e ≠ d → u.queue e = s.queue e ∧ u.monOf e = s.monOf e ∧ u.sideOf e = s.sideOf e) ∧
      u.lastRead = some ⟨p, t, s.engine.slot1.block, .data
        (if s.engine.slot1.block = r.last (s.geom d) then s.engine.slot1.bytes.take r.lastBytes
         else s.engine.slot1.bytes.take 512)⟩ ∧
      u.engine = Engine.freeWith (s.engine.candidates.filter (· ≠ .host d p t)) ∧
      u.port p = { s.port p with link := .free, out := [] } ∧ (∀ q, q ≠ p → u.port q = s.port q) ∧
      (∀ g, u.gate = some g → g.drive ≠ d) ∧ u.monOf d = { s.monOf d with state := .ready } ∧
      u.sideOf d = { s.sideOf d with offset := .none, strobe := .normal } ∧
      u = { s with
        queues := u.queues, lastRead := u.lastRead, engine := u.engine, ports := u.ports, gate := u.gate
        mon := u.mon, side := u.side, walk := none }) ∧
  (∀ (s : State) (d : Drive) (p : Path) (t : Tag) (r : Request) (portFirst : Bool) (code : Code) (b : Concerned),
    (s.port p).link = .connected → s.engine.holder = some (.host d p t) → s.engine.phase = .draining →
    s.engine.drain = .fail code b → s.queue d = [r] → r.path = p → r.tag = t → r.order = .read →
    s.engine.slot1.st = .full → s.engine.slot2.st = .empty →
    ∃ u : State, exec (.frameSent p portFirst) s = .next u.settle ∧ endedWith s u d r code (some b)) ∧
  (∀ (s : State) (d : Drive) (p : Path) (t : Tag) (r : Request) (portFirst : Bool),
    (s.port p).link = .connected → s.engine.holder = some (.host d p t) →
    (s.engine.phase = .running ∨ s.engine.phase = .draining ∧ s.engine.slot2.st = .full) →
    s.req? d p t = some r → r.order = .read → s.engine.slot1.st = .full →
    (s.engine.slot2.st ≠ .empty → s.engine.slot1.block < s.engine.slot2.block) →
    exec (.frameSent p portFirst) s = .next (State.settle { s with
      lastRead := some ⟨p, t, s.engine.slot1.block, .data
        (if s.engine.slot1.block = r.last (s.geom d) then s.engine.slot1.bytes.take r.lastBytes
         else s.engine.slot1.bytes.take 512)⟩
      engine := { s.engine with slot1 := Slot.none }
      queues := s.queues.set d ((s.queue d).map fun x => if x.path = p ∧ x.tag = t then
        { x with blocksDone := x.blocksDone + 1 } else x) })) ∧
  ∀ (s : State) (d : Drive) (p : Path) (t : Tag) (r : Request) (portFirst : Bool),
    (s.port p).link = .connected → s.engine.holder = some (.host d p t) → s.engine.phase = .draining →
    s.engine.drain = .finish → s.queue d = [r] → r.path = p → r.tag = t → r.order = .read →
    s.engine.slot1.st = .full → s.engine.slot2.st = .empty →
    let reserves := r.reserveIfClean = true ∧ r.outcome ≠ .recovered ∧ p ≠ .s ∧ s.group p ≠ 0 ∧
      ∀ g, s.reservedBy d = some g → g = s.group p
    ∃ (u : State) (reserved : Bool), exec (.frameSent p portFirst) s = .next u.settle ∧ u.queue d = [] ∧
      (reserved = true ↔ reserves) ∧
      (reserves → u.reservedBy d = some (s.group p)) ∧ (¬reserves → u.reserved = s.reserved) ∧
      (∀ e, e ≠ d → u.reservedBy e = s.reservedBy e) ∧
      (u.port p).link = .sending ∧ (u.port p).tags = (s.port p).tags.set t .ending ∧
      (u.port p).endings = (s.port p).endings ∧
      (u.port p).out = [.ending ⟨some t,
        (match r.outcome with | .none => .normal | .corrected => .corrected | .recovered => .recovered),
        false, reserved, some d, r.blocksDone + 1,
        (if r.outcome = .none then none else (s.note? p t).bind (·.block)), none⟩] ∧
      (∃ x, u.lastRead = some x ∧ x.path = p ∧ x.tag = t ∧ x.block = s.engine.slot1.block ∧
        (s.engine.slot1.block = r.last (s.geom d) → x.frame = .data (s.engine.slot1.bytes.take r.lastBytes))) ∧
      u.engine.holder = none ∧ u.engine.phase = .free ∧ u.engine.slot1 = Slot.none ∧
      u.engine.slot2 = Slot.none ∧ (u.monOf d).state = .ready ∧
      (∀ e, e ≠ d → u.queue e = s.queue e ∧ u.monOf e = s.monOf e) ∧ (∀ q, q ≠ p → u.port q = s.port q)

/-- The ending frame of a queued order has gone out: the link is FREE, the tag slot FREE and the request's note
removed; a NORMAL ending leaves the condition record, any other is captured in an EMPTY record with the note's step
and burst, or counted up to 255 in a HELD one, but for ABANDONED (R94, R108, R159, R160, R169). -/
def Obligations.EndingSentFreesTheTagAndIsCaptured : Prop :=
  ∀ (s : State) (p : Path) (e : Ending) (t : Tag), (s.port p).link = .sending → (s.port p).out = [.ending e] →
    e.tag = some t → e.refusal = false →
    ∃ u : State, exec (.frameSent p false) s = .next u.settle ∧ (u.port p).link = .free ∧ (u.port p).out = [] ∧
      (u.port p).tags = (s.port p).tags.set t .free ∧
      u.notes = s.notes.filter (fun n => ¬(n.path = p ∧ n.tag = t)) ∧
      (e.code = .normal ∨ e.code = .abandoned → (u.port p).condition = (s.port p).condition) ∧
      (e.code ≠ .normal → e.code ≠ .abandoned → (s.port p).condition.held = none →
        (u.port p).condition.further = (s.port p).condition.further ∧
        (∀ n, s.note? p t = some n →
          (u.port p).condition.held = some ⟨some t, e.code, e.drive, e.block, n.lastStep, n.burst⟩) ∧
        (s.note? p t = none → (u.port p).condition.held = some ⟨some t, e.code, e.drive, e.block, 0, 0⟩)) ∧
      (e.code ≠ .normal → e.code ≠ .abandoned → (s.port p).condition.held ≠ none →
        (u.port p).condition = ⟨(s.port p).condition.held, min 255 ((s.port p).condition.further + 1)⟩) ∧
      u = { s with ports := u.ports, notes := u.notes } ∧ ∀ q, q ≠ p → u.port q = s.port q

/-- The host side begins an order frame only on a FREE link; on any other, nothing happens (R160; log entry 2). The link
is then RECEIVING with that frame, whose bytes the model holds from its beginning on (log entry 10), and no host candidate
of the path is left in the list; with no such candidate nothing else changes (R70, R160). A candidate so taken out, the
only one of its drive, misses: its count rises by 1 below the stall limit (R75). -/
def Obligations.OrderFrameTakesAFreeLink : Prop :=
  ∀ (s : State) (p : Path) (frame : List Byte),
    ((s.port p).link ≠ .free → exec (.orderFrameBegin p frame) s = .next s) ∧
    ((s.port p).link = .free → (∀ d t, s.engine.holder ≠ some (.host d p t)) →
      ∃ u : State, exec (.orderFrameBegin p frame) s = .next u.settle ∧ (u.port p).link = .receiving ∧
        (u.port p).rx = some frame ∧ (∀ d t, Work.host d p t ∉ u.engine.candidates) ∧
        ((∀ d t, Work.host d p t ∉ s.engine.candidates) →
          u = { s with ports := s.ports.set p { s.port p with link := .receiving, rx := some frame } }) ∧
        ∀ d t r, s.engine.candidates.filter (fun w => w.drive = d) = [.host d p t] → s.serving d = some r →
          r.missCount + 1 < s.policy.stallLimit →
          u.queue d = (s.queue d).map (fun x => if x.path = r.path ∧ x.tag = r.tag then
            { x with missCount := x.missCount + 1 } else x) ∧ u.monOf d = s.monOf d)

/-- A FREE link's port begins the frame at the head of its ending list, and only that list loses it; with the list
empty, or the link not FREE, no ending begins. With the list empty it sends the enabled member of lowest rank of its
raw set, and among those of lowest drive, and the member leaves the set; no notice begins while an ending waits, the
link is not FREE, or no member is enabled (R161, R167). The premise on the raw sets is R166's, an invariant below. -/
def Obligations.PortFramesGoOutInOrder : Prop :=
  (∀ (s : State) (p : Path),
    (∀ e rest, (s.port p).link = .free → (s.port p).endings = e :: rest →
      exec (.endingFrameBegin p) s = .next { s with
        ports := s.ports.set p { s.port p with link := .sending, out := [.ending e], rx := none, endings := rest } }) ∧
    ((s.port p).link ≠ .free ∨ (s.port p).endings = [] → exec (.endingFrameBegin p) s = .next s)) ∧
  ∀ (s : State) (p : Path), s.NoticesSound →
    (∀ n ∈ (s.port p).raw, (s.port p).link = .free → (s.port p).endings = [] →
      n.kind.inMask (s.port p).mask = true →
      (∀ m ∈ (s.port p).raw, m.kind.inMask (s.port p).mask = true →
        n.kind.number < m.kind.number ∨ (n.kind = m.kind ∧ n.drive ≤ m.drive)) →
      ∃ u : State, exec (.noticeFrameBegin p) s = .next u ∧ (u.port p).link = .sending ∧
        (u.port p).out = [.notice n] ∧ (u.port p).raw = (s.port p).raw.filter (· ≠ n) ∧
        u.port p = { s.port p with
          link := .sending, out := [.notice n], rx := none, raw := (u.port p).raw } ∧
        (∀ q, q ≠ p → u.port q = s.port q) ∧ u = { s with ports := u.ports }) ∧
    ((s.port p).link ≠ .free ∨ (s.port p).endings ≠ [] ∨
        (∀ m ∈ (s.port p).raw, m.kind.inMask (s.port p).mask = false) →
      exec (.noticeFrameBegin p) s = .next s)

/-! ## Orders -/

/-- An order frame of 16 bytes and type 01H without the direct flag, with this order code. -/
def PlainOrder (f : List Byte) (code : Nat) : Prop :=
  f.length = 16 ∧ byteAt f 0 = 1 ∧ byteAt f 1 = code ∧ frameDirect f = false

/-- The port `p` of `s` with its link SENDING these frames in answer to the order it held. -/
def answering (s : State) (p : Path) (out : List Frame) : Port :=
  { s.port p with link := .sending, out := out, rx := none }

/-- The checks of Table 9-2 for a queued order of a well-formed frame: it is accepted exactly when every one of them
passes, the ranges of R27 and R28, the permission, the tag, the drive's state, the volume, the extents, the reservation,
the room and the group all among them (R163). Which unassigned flag bits a well-formed frame has 0 is log entry 22's. -/
def Obligations.AcceptanceIsEveryCheckPassed : Prop :=
  ∀ (s : State) (p : Path) (d : Drive) (o : QOrder) (f : List Byte), f.length = 16 → byteAt f 0 = 1 →
    rowOf f = .queued o → frameDrive f = some d → frameFlagsClear f = true →
    (s.acceptance p d o f = none ↔
      ((o = .read ∨ o = .write ∨ o = .verify) →
        wordAt f 4 ≤ 1023 ∧ byteAt f 6 ≤ 15 ∧ byteAt f 7 ≤ 31 ∧ 1 ≤ wordAt f 8 ∧ wordAt f 8 ≤ 256 ∧
        1 ≤ wordAt f 10 ∧ wordAt f 10 ≤ 512) ∧
      (o = .position → wordAt f 4 ≤ 1023 ∧ byteAt f 6 ≤ 15) ∧
      (frameDirect f = true → (o = .read ∨ o = .verify) ∧ p = .s) ∧
      (s.port p).tags.get (frameTag f) = .free ∧
      (s.monOf d).state ≠ .absent ∧
      (o ≠ .recalibrate →
        (s.monOf d).state ≠ .offline ∧ (s.monOf d).state ≠ .spinCheck ∧ (s.monOf d).state ≠ .faulted) ∧
      (let g := s.geom d
       let cyls := if frameDirect f then g.cyls else g.cyls - g.spares
       (o = .read ∨ o = .write ∨ o = .verify) →
         byteAt f 6 < g.heads ∧ wordAt f 4 < cyls ∧
         ((wordAt f 4 * g.heads + byteAt f 6) * 32 + byteAt f 7) + wordAt f 8 - 1 ≤ cyls * g.heads * 32 - 1) ∧
      (o = .position → byteAt f 6 < (s.geom d).heads ∧ wordAt f 4 < (s.geom d).cyls - (s.geom d).spares ∧
        (wordAt f 4 * (s.geom d).heads + byteAt f 6) * 32 ≤
          ((s.geom d).cyls - (s.geom d).spares) * (s.geom d).heads * 32 - 1) ∧
      (p ≠ .s → (o = .read ∨ o = .write ∨ o = .verify) →
        let g := s.geom d
        let first := (wordAt f 4 * g.heads + byteAt f 6) * 32 + byteAt f 7
        let lo := first / 32 / g.heads
        let hi := (first + wordAt f 8 - 1) / 32 / g.heads
        ∀ e ∈ s.extents, e.inUse = true → e.drive = d → e.low ≤ hi → lo ≤ e.high →
          (e.cls = .fenced → e.group = s.group p) ∧
          (e.cls = .readOnly → o = .write → e.group ≠ 0 ∧ s.group p = e.group)) ∧
      (∀ g, s.reservedBy d = some g → p ≠ .s ∧ s.group p = g) ∧
      (s.queue d).length < 8 ∧
      (o = .reserve → p ≠ .s ∧ s.group p ≠ 0))

/-- A refused queued order is answered at once with its code, its tag, its drive and the refusal item; it takes no tag
and leaves no entry; the path is marked awaiting release after RESERVED ELSEWHERE and awaiting room after QUEUE FULL,
and nothing else changes (R48, R149, R163, R165). An order whose drive byte names no drive is refused BAD ORDER and
carries no drive; so is one whose frame is too short to have that byte, which carries its tag where the frame has that
byte (log entry 11; which flag bits a frame must have 0 is log entry 22's). The checks are made in the order of Table
9-2, and the first that fails gives the code (R163). -/
def Obligations.RefusedOrderLeavesNoTrace : Prop :=
  (∀ (s : State) (ended : List Path) (p : Path) (f : List Byte) (d : Drive) (o : QOrder) (gone : Bool) (c : Code),
    s.takes ended p f → rowOf f = .queued o → frameDrive f = some d → s.acceptance p d o f = some c →
    exec (o.command ended gone) s = .next (State.settle { s with
      lastHost := s.lastAfter p
      ports := s.ports.set p { answering s p
          [.ending ⟨some (frameTag f), c, true, false, some d, 0, none, none⟩] with
        awaitRoom := if c = .queueFull then (s.port p).awaitRoom.set d true else (s.port p).awaitRoom
        awaitRelease :=
          if c = .reservedElsewhere then (s.port p).awaitRelease.set d true else (s.port p).awaitRelease } })) ∧
  (∀ (s : State) (ended : List Path) (p : Path) (f : List Byte) (o : QOrder) (gone : Bool),
    s.takes ended p f → rowOf f = .queued o → frameDrive f = none →
    exec (o.command ended gone) s = .next (State.settle { s with
      lastHost := s.lastAfter p
      ports := s.ports.set p (answering s p
        [.ending ⟨if 2 < f.length then some (frameTag f) else none, .badOrder, true, false, none, 0, none, none⟩]) })) ∧
  ∀ (s : State) (p : Path) (d : Drive) (o : QOrder) (f : List Byte), rowOf f = .queued o → frameDrive f = some d →
    let away := ∃ g, s.reservedBy d = some g ∧ (p = .s ∨ s.group p ≠ g)
    let checks : List (Prop × Code) :=
      [(badOrder p f = true, .badOrder), (p ≠ .s ∧ frameDirect f = true, .notPermitted),
       ((s.port p).tags.get (frameTag f) ≠ .free, .tagInUse), ((s.monOf d).state = .absent, .noDrive),
       (o ≠ .recalibrate ∧
         ((s.monOf d).state = .offline ∨ (s.monOf d).state = .spinCheck ∨ (s.monOf d).state = .faulted), .notReady),
       (s.volumeBad d o f = true, .outsideVolume), (s.extentRefusal p d o f = some .fenced, .fenced),
       (s.extentRefusal p d o f = some .readOnly, .readOnly), (away, .reservedElsewhere),
       (8 ≤ (s.queue d).length, .queueFull), (o = .reserve ∧ (p = .s ∨ s.group p = 0), .noGroup)]
    ∀ pre c post, checks = pre ++ c :: post → c.1 → (∀ x ∈ pre, ¬x.1) → s.acceptance p d o f = some c.2

/-- An accepted queued order joins the tail of its drive's queue with the at-entry values of Table 3-2; its tag slot
is OUTSTANDING, a hold frame answers it, the drive's idle count is 0 and a scan pass on it is gone; a RECALIBRATE
here finds its drive neither OFFLINE nor FAULTED (R46, R47, R135, R138, R159). The drive is given back by its scan phase:
in SEEKING its seek goes on, the mark check PENDING unless it is none, or its recalibrate goes on with nothing further
and no mark check; a CANDIDATE leaves the list and its drive is READY at once; in PASS the gate drops, the engine is FREE
and the drive READY (R138; the purpose of a recalibrate is log entry 14's); these two leave the mark check as it stands
(log entry 54). -/
def Obligations.AcceptedOrderJoinsItsQueue : Prop :=
  ∀ (s : State) (ended : List Path) (p : Path) (f : List Byte) (d : Drive) (o : QOrder) (gone : Bool),
    s.takes ended p f → rowOf f = .queued o → frameDrive f = some d → s.acceptance p d o f = none →
    (o = .recalibrate → (s.monOf d).state ≠ .offline ∧ (s.monOf d).state ≠ .faulted) →
    ∃ u : State, exec (o.command ended gone) s = .next u.settle ∧
      u.queue d = s.queue d ++ [⟨p, frameTag f, o,
        (if o = .read ∨ o = .write ∨ o = .verify then ⟨wordAt f 4, byteAt f 6, byteAt f 7⟩
         else if o = .position then ⟨wordAt f 4, byteAt f 6, 0⟩ else ⟨0, 0, 0⟩),
        (if o = .read ∨ o = .write ∨ o = .verify then wordAt f 8 else 0),
        (if o = .read ∨ o = .write ∨ o = .verify then wordAt f 10 else 0),
        decide (o = .read ∨ o = .write ∨ o = .verify) && frameDirect f,
        decide (o = .read) && frameReserve f, 0, 0, false, false, 0, .none, false⟩] ∧
      (∀ e, e ≠ d → u.queue e = s.queue e ∧ u.monOf e = s.monOf e ∧ u.scanOf e = s.scanOf e) ∧
      u.port p = { answering s p [.hold (frameTag f)] with
        tags := (s.port p).tags.set (frameTag f) .outstanding } ∧
      (∀ q, q ≠ p → u.port q = s.port q) ∧ (u.scanOf d).idle = 0 ∧ (u.scanOf d).phase = .none ∧
      ((s.scanOf d).phase = .none → u.mon = s.mon ∧ u.side = s.side ∧ u.engine = s.engine ∧ u.gate = s.gate) ∧
      (let still := u.side = s.side ∧ u.engine = s.engine ∧ u.gate = s.gate
       let ready := u.monOf d = { s.monOf d with state := .ready } ∧
         u.sideOf d = { s.sideOf d with offset := .none, strobe := .normal } ∧ ∀ e, e ≠ d → u.sideOf e = s.sideOf e
       ((s.scanOf d).phase = .seeking → (s.monOf d).state = .recalibrating →
          u.monOf d = { s.monOf d with recal := .plain, markCheck := .none } ∧ still) ∧
       ((s.scanOf d).phase = .seeking → (s.monOf d).state ≠ .recalibrating →
          u.monOf d = { s.monOf d with
            markCheck := if (s.monOf d).markCheck = .none then .none else .pending } ∧ still) ∧
       ((s.scanOf d).phase = .candidate → ready ∧ u.gate = s.gate ∧
          u.engine = { s.engine with candidates := s.engine.candidates.filter (· ≠ .scan d) }) ∧
       ((s.scanOf d).phase = .pass → s.engine.holder = some (.scan d) → ready ∧
          (∀ g, u.gate = some g → g.drive ≠ d) ∧
          u.engine = Engine.freeWith (s.engine.candidates.filter (·.drive ≠ d)))) ∧
      u = { s with
        queues := u.queues, ports := u.ports, scans := u.scans, lastHost := s.lastAfter p, mon := u.mon
        side := u.side, engine := u.engine, gate := u.gate }

/-- A RECALIBRATE accepted for a FAULTED drive is served at once: with the fault line low after fault clear the drive is
RECALIBRATING with cause none, mismatch count 0, seek timer 0 and mark check none; with the line still high it stays
FAULTED with cause LINE, and the order and every other request of its queue end DRIVE LOST. For an OFFLINE drive the
order ends DRIVE LOST as it enters (R18). At seek-complete the cylinder and head are 0, the order ends NORMAL and the
drive is READY; DRIVE READY goes to every path after a start from FAULTED, and to none after one from READY (R17, R18;
the purpose that tells the two apart is log entry 14's). Whether fault clear lowers the line is the command's operand
(log entry 19); the block that an ending names is by log entries 23 and 26. -/
def Obligations.RecalibrateClearsAFault : Prop :=
  (∀ (s : State) (ended : List Path) (p : Path) (f : List Byte) (d : Drive) (gone : Bool),
    s.takes ended p f → rowOf f = .queued .recalibrate → frameDrive f = some d →
    s.acceptance p d .recalibrate f = none → (s.scanOf d).phase = .none →
    ((s.monOf d).state = .faulted → ((s.sideOf d).faultLine = false ∨ gone = true) →
      ∃ u : State, exec (.recalibrate ended gone) s = .next u.settle ∧
        u.monOf d = { s.monOf d with
          state := .recalibrating, cause := .none, mismatch := 0, seekTimer := 0, markCheck := .none
          recal := .orderFaulted } ∧
        u.sideOf d = { s.sideOf d with
          faultLine := false, offset := .none, strobe := .normal, motion := .recalibrate } ∧
        (u.port p).out = [.hold (frameTag f)] ∧ (u.port p).link = .sending ∧
        (∃ r ∈ u.queue d, r.path = p ∧ r.tag = frameTag f ∧ r.order = .recalibrate ∧ r.inService = true) ∧
        (∀ e, e ≠ d → u.queue e = s.queue e ∧ u.monOf e = s.monOf e)) ∧
    ((s.monOf d).state = .faulted → (s.sideOf d).faultLine = true → gone = false →
      ∃ u : State, exec (.recalibrate ended gone) s = .next u.settle ∧ (u.monOf d).state = .faulted ∧
        (u.monOf d).cause = .line ∧ u.queue d = [] ∧ (u.port p).tags.get (frameTag f) = .ending ∧
        (∀ q, (⟨.driveFault, d, .fault .line⟩ : Notice) ∈ (u.port q).raw) ∧
        ((∀ q t, s.engine.holder ≠ some (.host d q t)) → (u.port p).out = [.hold (frameTag f)] ∧
          (⟨some (frameTag f), .driveLost, false, false, some d, 0, none, none⟩ : Ending) ∈ (u.port p).endings ∧
          ∀ r ∈ s.queue d, (u.port r.path).tags.get r.tag = .ending ∧
            s.unfinished d r .driveLost ∈ (u.port r.path).endings)) ∧
    ((s.monOf d).state = .offline →
      ∃ u : State, exec (.recalibrate ended gone) s = .next u.settle ∧ u.mon = s.mon ∧
        (u.port p).tags.get (frameTag f) = .ending ∧
        (∀ r ∈ u.queue d, ¬(r.path = p ∧ r.tag = frameTag f)) ∧
        (s.engine.holder ≠ some (.host d p (frameTag f)) →
          (u.port p).endings = (s.port p).endings ++
            [⟨some (frameTag f), .driveLost, false, false, some d, 0, none, none⟩]))) ∧
  ∀ (s : State) (d : Drive) (r : Request), (s.monOf d).state = .recalibrating →
    (s.monOf d).recal = .order ∨ (s.monOf d).recal = .orderFaulted → s.serving d = some r →
    r.order = .recalibrate → s.engine.holder ≠ some (.host d r.path r.tag) →
    ∃ u : State, exec (.seekComplete d) s = .next u.settle ∧
      u.monOf d = { s.monOf d with state := .ready, cylinder := 0, head := 0 } ∧
      u.sideOf d = { s.sideOf d with head := 0, motion := .none, offset := .none, strobe := .normal } ∧
      u.queue d = (s.queue d).filter (fun x => ¬(x.path = r.path ∧ x.tag = r.tag)) ∧
      (u.port r.path).tags = (s.port r.path).tags.set r.tag .ending ∧
      (u.port r.path).endings = (s.port r.path).endings ++
        [⟨some r.tag, .normal, false, false, some d, 0, none, none⟩] ∧
      (∀ p, (⟨.driveReady, d, .none⟩ : Notice) ∈ (u.port p).raw ↔
        (s.monOf d).recal = .orderFaulted ∨ (⟨.driveReady, d, .none⟩ : Notice) ∈ (s.port p).raw) ∧
      ∀ e, e ≠ d → u.monOf e = s.monOf e ∧ u.queue e = s.queue e

/-- SET GROUP: BUSY while a tag slot is in use; NORMAL without change when the number is the path's own, or on S
with 0; otherwise the path takes the number, and the drives of a group left without members become UNRESERVED, each
path marked awaiting release for one losing its mark and getting RELEASED (R144, R145, R147). -/
def Obligations.SetGroupMovesThePath : Prop :=
  ∀ (s : State) (ended : List Path) (p : Path) (f : List Byte), s.takes ended p f → PlainOrder f 0x10 →
    byteAt f 12 ≤ 15 → (p = .s → byteAt f 12 = 0) →
    let left := s.group p
    let free := ∀ t, (s.port p).tags.get t = .free
    let answers (c : Code) : State := { s with
      lastHost := s.lastAfter p
      ports := s.ports.set p (answering s p [.ending ⟨none, c, false, false, none, 0, none, none⟩]) }
    (p = .s → exec (.setGroup ended) s = .next (answers .normal)) ∧
    (p ≠ .s → ¬free → exec (.setGroup ended) s = .next (answers .busy)) ∧
    (p ≠ .s → free → byteAt f 12 = left → exec (.setGroup ended) s = .next (answers .normal)) ∧
    (p ≠ .s → free → byteAt f 12 ≠ left →
      ∃ u : State, exec (.setGroup ended) s = .next u ∧ u.group p = byteAt f 12 ∧
        (∀ q, q ≠ p → u.group q = s.group q) ∧ (u.port p).link = .sending ∧
        (u.port p).out = [.ending ⟨none, .normal, false, false, none, 0, none, none⟩] ∧
        ((left ≠ 0 ∧ ∀ q, q ≠ p → q ≠ .s → s.group q ≠ left) →
          (∀ d, s.reservedBy d = some left → u.reservedBy d = none ∧
            ∀ q, (s.port q).awaitRelease.get d = true →
              (⟨.released, d, .none⟩ : Notice) ∈ (u.port q).raw ∧ (u.port q).awaitRelease.get d = false) ∧
          ∀ d, s.reservedBy d ≠ some left → u.reservedBy d = s.reservedBy d) ∧
        (¬(left ≠ 0 ∧ ∀ q, q ≠ p → q ≠ .s → s.group q ≠ left) →
          u.reserved = s.reserved ∧ ∀ q, (u.port q).raw = (s.port q).raw) ∧
        u = { s with groups := u.groups, reserved := u.reserved, ports := u.ports, lastHost := s.lastAfter p })

/-- SET NOTICES replaces the path's mask by the kinds named; CLEAR NOTICES removes from its raw set exactly the
members whose kind and drive are both named; both end NORMAL and change no other path (R166). The ending of a CLEAR NOTICES carries no
drive, whatever its drives mask (log entry 59). -/
def Obligations.NoticeOrdersActOnTheirPath : Prop :=
  ∀ (s : State) (ended : List Path) (p : Path) (f : List Byte), s.takes ended p f →
    (PlainOrder f 0x11 →
      exec (.setNotices ended) s = .next { s with
        lastHost := s.lastAfter p
        ports := s.ports.set p { answering s p [.ending ⟨none, .normal, false, false, none, 0, none, none⟩] with
          mask := f.getD 12 0 } }) ∧
    (PlainOrder f 0x12 →
      ∃ u : State, exec (.clearNotices ended) s = .next u ∧
        (∀ n, n ∈ (u.port p).raw ↔ n ∈ (s.port p).raw ∧
          ¬((f.getD 12 0).getLsbD (n.kind.number - 1) = true ∧ (f.getD 13 0).getLsbD n.drive.val = true)) ∧
        (u.port p).raw.Sublist (s.port p).raw ∧
        u = { s with
          lastHost := s.lastAfter p
          ports := s.ports.set p { answering s p
            [.ending ⟨none, .normal, false, false, none, 0, none, none⟩] with raw := (u.port p).raw } })

/-- REPORT CONDITION answers with the path's own record in a data frame of 20 bytes before the ending NORMAL, and the
record becomes EMPTY with further endings 0; other paths' records stay. An EMPTY record goes out as 20 zeros (R109,
R170, Table 9-11; of a HELD one the bits to which that table gives no value are log entry 56's, and the address bytes of
an absent block log entry 36's). -/
def Obligations.ReportConditionEmptiesTheRecord : Prop :=
  ∀ (s : State) (ended : List Path) (p : Path) (f : List Byte), s.takes ended p f → PlainOrder f 0x13 →
    (s.port p).condition.bytes.length = 20 ∧
    ((s.port p).condition.held = none → (s.port p).condition.bytes = List.replicate 20 0) ∧
    exec (.reportCondition ended) s = .next { s with
      lastHost := s.lastAfter p
      ports := s.ports.set p { answering s p [.data (s.port p).condition.bytes,
          .ending ⟨none, .normal, false, false, none, 0, none, none⟩] with
        condition := ⟨none, 0⟩ } }

/-- FETCH TABLE of any of the eight tables: with sound addressing the entries as they stand go out in data frames of 1
to 512 bytes, in order, before the ending NORMAL; with a fault TABLE INVALID goes out alone, as a refusal (read by log
entry 31). Nothing but the port and the decoder's record changes (R171, R172; the entry that TABLE INVALID names is free
or read by log entry 21; of an unused WATCH place seven bytes are the model's, log entry 53, and so are the unassigned
bits of a flags byte, log entry 56; that the ending carries no drive, whatever the table, is log entry 59's). -/
def Obligations.FetchSendsTheEntriesAsTheyStand : Prop :=
  ∀ (s : State) (ended : List Path) (p : Path) (f : List Byte) (table : Nat), s.takes ended p f →
    PlainOrder f 0x14 → byteAt f 12 = table → 1 ≤ table → table ≤ 8 →
    let first := byteAt f 13
    let count := wordAt f 14
    let size := if table = 2 then 4 else if table = 4 ∨ table = 7 then 16 else 8
    let sound := if table = 5 then first = 1 ∧ 1 ≤ count ∧ count ≤ 16
      else if table = 6 then first = 0 ∧ count = 1
      else 1 ≤ count ∧ first + count ≤ size
    ∃ u : State, exec (fetchCommand ended table) s = .next u ∧
      u = { s with
        lastHost := s.lastAfter p, ports := s.ports.set p (answering s p (u.port p).out) } ∧
      (sound → ∃ fs : List (List Byte),
        (u.port p).out = fs.map Frame.data ++ [.ending ⟨none, .normal, false, false, none, 0, none, none⟩] ∧
        fs.flatten = (List.range count).flatMap (fun i => s.entryBytes table (first + i)) ∧
        ∀ x ∈ fs, 1 ≤ x.length ∧ x.length ≤ 512) ∧
      (¬sound → ∃ e, (u.port p).out = [.ending ⟨none, .tableInvalid, true, false, none, 0, none, e⟩])

/-- LOAD TABLE on S is handed to the table store, and the port stays RECEIVING for its data; on a host path it is
refused NOT PERMITTED, without a drive (log entry 59). An order code outside Table 9-12 is refused BAD ORDER on every
path, with no effect but its answer (R163, R173), which carries no tag and no drive (log entry 51). -/
def Obligations.LoadTableIsHandedOver : Prop :=
  ∀ (s : State) (ended : List Path) (p : Path) (f : List Byte), s.takes ended p f →
    (PlainOrder f 0x16 → 1 ≤ byteAt f 12 → byteAt f 12 ≤ 8 →
      (p = .s → exec (.loadTable ended) s = .next { s with
        load := some ⟨byteAt f 12, byteAt f 13, wordAt f 14, []⟩
        ports := s.ports.set .s { s.port .s with rx := none } }) ∧
      (p ≠ .s → exec (.loadTable ended) s = .next { s with
        lastHost := p
        ports := s.ports.set p
          (answering s p [.ending ⟨none, .notPermitted, true, false, none, 0, none, none⟩]) })) ∧
    (byteAt f 1 ∉ [0x01, 0x02, 0x03, 0x04, 0x05, 0x06, 0x07, 0x10, 0x11, 0x12, 0x13, 0x14, 0x15, 0x16, 0x17, 0x18,
        0x19] →
      exec (.unknownOrderCode ended) s = .next { s with
        lastHost := s.lastAfter p
        ports := s.ports.set p
          (answering s p [.ending ⟨none, .badOrder, true, false, none, 0, none, none⟩]) })

/-- ASSIGN ALTERNATE on S: NO DRIVE for an ABSENT drive, OUTSIDE VOLUME for a home outside the host range; a home
already queued or under relocation ends NORMAL and its queue entry takes the source ORDER; a full queue ends BUSY;
otherwise an ORDER entry joins the tail (R117, R163). -/
def Obligations.AssignAlternateQueuesTheHome : Prop :=
  ∀ (s : State) (ended : List Path) (f : List Byte) (d : Drive), s.takes ended .s f → PlainOrder f 0x17 →
    frameDrive f = some d → wordAt f 4 ≤ 1023 → byteAt f 6 ≤ 15 →
    let home : Track := ⟨wordAt f 4, byteAt f 6⟩
    let inHost := byteAt f 6 < (s.geom d).heads ∧ wordAt f 4 < (s.geom d).cyls - (s.geom d).spares
    let known := (∃ e ∈ s.relocQ, e.drive = d ∧ e.home = home) ∨ ∃ r, s.reloc = some r ∧ r.drive = d ∧ r.home = home
    let answers (c : Code) (refused : Bool) (q : List RelocEntry) : State := { s with
      relocQ := q
      ports := s.ports.set .s (answering s .s [.ending ⟨none, c, refused, false, some d, 0, none, none⟩]) }
    ((s.monOf d).state = .absent → exec (.assignAlternate ended) s = .next (answers .noDrive true s.relocQ)) ∧
    ((s.monOf d).state ≠ .absent → ¬inHost →
      exec (.assignAlternate ended) s = .next (answers .outsideVolume true s.relocQ)) ∧
    ((s.monOf d).state ≠ .absent → inHost → known →
      exec (.assignAlternate ended) s = .next (answers .normal false (s.relocQ.map fun e =>
        if e.drive = d ∧ e.home = home then { e with source := .order } else e))) ∧
    ((s.monOf d).state ≠ .absent → inHost → ¬known → 4 ≤ s.relocQ.length →
      exec (.assignAlternate ended) s = .next (answers .busy false s.relocQ)) ∧
    ((s.monOf d).state ≠ .absent → inHost → ¬known → s.relocQ.length < 4 →
      exec (.assignAlternate ended) s = .next (answers .normal false (s.relocQ ++ [⟨d, home, .order⟩])))

/-- FORCE RELEASE on S makes a reserved drive UNRESERVED and raises RELEASED to the marked paths and to every member
of the former holder group, whose marks for the drive go; an UNRESERVED drive ends NORMAL with no change (R147,
R152). -/
def Obligations.ForceReleaseFreesTheDrive : Prop :=
  ∀ (s : State) (ended : List Path) (f : List Byte) (d : Drive), s.takes ended .s f → PlainOrder f 0x18 →
    frameDrive f = some d →
    (s.reservedBy d = none → exec (.forceRelease ended) s = .next { s with
      ports := s.ports.set .s
        (answering s .s [.ending ⟨none, .normal, false, false, some d, 0, none, none⟩]) }) ∧
    (∀ g, s.reservedBy d = some g →
      ∃ u : State, exec (.forceRelease ended) s = .next u ∧ u.reservedBy d = none ∧
        (∀ e, e ≠ d → u.reservedBy e = s.reservedBy e) ∧
        (∀ q, (s.port q).awaitRelease.get d = true ∨ (q ≠ .s ∧ s.group q = g) →
          (⟨.released, d, .none⟩ : Notice) ∈ (u.port q).raw) ∧
        (∀ q, ¬((s.port q).awaitRelease.get d = true ∨ (q ≠ .s ∧ s.group q = g)) →
          (u.port q).raw = (s.port q).raw) ∧
        (∀ q, (u.port q).awaitRelease = (s.port q).awaitRelease.set d false) ∧
        (u.port .s).link = .sending ∧
        (u.port .s).out = [.ending ⟨none, .normal, false, false, some d, 0, none, none⟩] ∧
        (∀ q, q ≠ .s → u.port q = { s.port q with
          raw := (u.port q).raw, awaitRelease := (u.port q).awaitRelease }) ∧
        u = { s with reserved := u.reserved, ports := u.ports })

/-- DIRECTOR RESET on S: every request ends with its tag slot ENDING and every queue is empty; reservations, raw sets,
marks, condition records, notes, scan passes and the active relocation are gone; masks, group numbers, the rotation
record, the tables, the relocation queue and the watch list's tracks and scores stay; the answer NORMAL is S's next
frame (R65, R90, R110, R133, R153, R169). A request that is not connected ends ABANDONED in its path's list with its
blocks done and next block. An ORIENTING drive is READY at once, and so is a TRANSFERRING one but where a block is being
written on it, whose gate stays raised and whose engine waits for its end (log entry 18); every other gate drops, every
other drive keeps its state, and a recalibrate goes on with nothing further, or as a spin check's (R22; log entry 14).
The block that an ending names is by log entries 23 and 26. -/
def Obligations.DirectorResetEndsEveryRequest : Prop :=
  ∀ (s : State) (ended : List Path) (f : List Byte), s.takes ended .s f → PlainOrder f 0x19 →
    ∃ u : State, exec (.directorReset ended) s = .next u.settle ∧
      (∀ d, u.queue d = [] ∧ u.reservedBy d = none ∧ u.scanOf d = ⟨0, .none, []⟩ ∧
        (u.monOf d).markCheck = .none ∧ (u.monOf d).cylinder = (s.monOf d).cylinder ∧
        (u.monOf d).sector = (s.monOf d).sector ∧ (u.monOf d).pointer = (s.monOf d).pointer) ∧
      (let written (h : Hand) : Prop := (∃ lg bs, h.op = .write lg bs) ∨ ∃ out, h.op = .passWrite out
       (∀ d, (u.monOf d).state = match (s.monOf d).state with
          | .orienting => .ready
          | .transferring => if s.writingOn d then .transferring else .ready
          | x => x) ∧
       (∀ d, s.writingOn d = true ↔ ∃ h, s.engine.hand = some h ∧ h.drive = d ∧ written h) ∧
       (∀ d, (s.monOf d).state = .recalibrating →
          (u.monOf d).recal = if (s.monOf d).recal = .spinCheck then .spinCheck else .plain) ∧
       ((∃ h, s.engine.hand = some h ∧ written h) →
          u.gate = s.gate ∧ u.engine.hand = s.engine.hand ∧ u.engine.stop = .drop) ∧
       ((∀ h, s.engine.hand = some h → ¬written h) → u.gate = none ∧ u.engine = Engine.freeWith [])) ∧
      (∀ d r, s.req? d r.path r.tag = some r → s.connected d r.path r.tag = false →
        s.unfinished d r .abandoned ∈ (u.port r.path).endings) ∧
      (∀ d, ∀ r ∈ s.queue d, (u.port r.path).tags.get r.tag = .ending) ∧
      (∀ p, (u.port p).raw = [] ∧ (u.port p).awaitRoom = PerDrive.const false ∧
        (u.port p).awaitRelease = PerDrive.const false ∧ (u.port p).condition = ⟨none, 0⟩ ∧
        (u.port p).mask = (s.port p).mask) ∧
      u.reloc = none ∧ (s.reloc ≠ none → u.buffer = Buffer.free) ∧ u.notes = [] ∧ u.walk = none ∧
      u.engine.holder = none ∧ u.engine.candidates = [] ∧
      (u.port .s).link = .sending ∧
      (u.port .s).out = [.ending ⟨none, .normal, false, false, none, 0, none, none⟩] ∧
      u.groups = s.groups ∧ u.lastHost = s.lastHost ∧ u.geometry = s.geometry ∧ u.profiles = s.profiles ∧
      u.extents = s.extents ∧ u.ladder = s.ladder ∧ u.policy = s.policy ∧ u.relocQ = s.relocQ ∧
      u.watch.map (fun e => (e.drive, e.track, e.score, e.unrelocatable)) =
        s.watch.map (fun e => (e.drive, e.track, e.score, e.unrelocatable))

/-- RESET PATH: the port takes its after-power-on record and answers NORMAL with no tag; every request of the path
leaves its queue, the others keeping their order; its notes go; a host path's group number is 0; a load on S is
discarded (R64, R94, R143, R168, R173). The drive of its request in service is given back: SEEKING and RECALIBRATING go
on, the latter with nothing further after a mark mismatch; ORIENTING is READY at once, the request neither recalled nor a
candidate any more; of a TRANSFERRING drive with no sector in hand the engine is FREE and the drive READY; with one, the
engine waits for its end, and a block being written then completes and is offered, one being read is discarded, and the
drive is READY. The mark check is none but under a RECALIBRATE order (R23, R89; the sector in hand, the purpose of a
recalibrate and the engine's wait are log entries 14, 16 and 18's). -/
def Obligations.ResetPathClearsThePath : Prop :=
  (∀ (s : State) (p : Path), ∃ u : State, exec (.resetPath p) s = .next u.settle ∧
    u.port p = { Port.initial p with
      link := .sending, out := [.ending ⟨none, .normal, false, false, none, 0, none, none⟩] } ∧
    (∀ d, u.queue d = (s.queue d).filter (fun r => r.path ≠ p)) ∧
    u.notes = s.notes.filter (fun n => n.path ≠ p) ∧
    (p ≠ .s → u.group p = 0) ∧ (p = .s → u.groups = s.groups ∧ u.load = none) ∧
    (∀ q, q ≠ p → u.group q = s.group q) ∧ (p ≠ .s → u.load = s.load) ∧
    (∀ q, q ≠ p → (u.port q).tags = (s.port q).tags ∧ (u.port q).endings = (s.port q).endings ∧
      (u.port q).condition = (s.port q).condition ∧ (u.port q).mask = (s.port q).mask) ∧
    u.map = s.map ∧ u.watch = s.watch ∧ u.relocQ = s.relocQ ∧ u.reloc = s.reloc ∧ u.buffer = s.buffer ∧
    u.geometry = s.geometry ∧ u.extents = s.extents ∧ u.lastHost = s.lastHost ∧
    (∀ d, (∀ r ∈ s.queue d, ¬(r.path = p ∧ r.inService = true)) → u.monOf d = s.monOf d) ∧
    ∀ d r, s.serving d = some r → r.path = p →
      let m := s.monOf d
      let ready := u.monOf d = { m with state := .ready, markCheck := .none } ∧
        u.sideOf d = { s.sideOf d with offset := .none, strobe := .normal }
      let freed := u.engine = Engine.freeWith u.engine.candidates ∧ u.walk = none ∧
        (∀ g, u.gate = some g → g.drive ≠ d) ∧ Work.host d p r.tag ∉ u.engine.candidates
      let held := s.engine.holder = some (.host d p r.tag)
      (m.state = .seeking → u.monOf d = { m with markCheck := .none } ∧ u.sideOf d = s.sideOf d) ∧
      (m.state = .recalibrating → u.sideOf d = s.sideOf d ∧
        u.monOf d = if m.recal = .reseek then { m with recal := .plain, markCheck := .none } else m) ∧
      (m.state = .orienting → ready ∧ Work.host d p r.tag ∉ u.engine.candidates ∧ (held → freed)) ∧
      (m.state = .transferring → held → s.engine.hand = none → ready ∧ freed) ∧
      (m.state = .transferring → held → s.engine.hand ≠ none →
        u.monOf d = { m with markCheck := .none } ∧ u.sideOf d = s.sideOf d ∧ u.gate = s.gate ∧ u.walk = none ∧
        u.engine = { Engine.freeWith u.engine.candidates with
          phase := s.engine.phase, hand := s.engine.hand, stop := .drop })) ∧
  ∀ (s : State) (d : Drive) (h : Hand) (y : Yield), s.engine.hand = some h → h.drive = d → s.engine.stop = .drop →
    ∃ u : State, exec (.sectorEnd d y) s = .next u.settle ∧ stopEnded s u d h ∧ u.queues = s.queues ∧
      u.ports = s.ports ∧ u.engine.candidates = s.engine.candidates


/-! ## The access scheduler -/

/-- The terms of the access cost. The seek time of distance 0 is 0; of a greater one it is the time of the first point
whose bound is not below it, and past every bound the last point's time (R54). The rotational term r lies in M to M+31
and brings the arrival sector to the target sector (R55). The effective cost is what remains of s + r after g×W, down
to 0 (R56), and with tables in range the access cost lies in 1–184. A READ, WRITE or VERIFY costs that of its inputs of
Table 3-4, the drive's profile, cylinder and sector counter, the physical address of its next block, its age and the
policy in force; any other order costs 0. -/
def Obligations.AccessCostIsSeekPlusRotation : Prop :=
  (∀ (profile : List SeekPoint) (c0 c1 p0 t m : Nat),
    let dist := if c0 ≤ c1 then c1 - c0 else c0 - c1
    let a := accessCost profile c0 c1 p0 t m
    (∃ s r : Nat, a = s + r ∧ m ≤ r ∧ r ≤ m + 31 ∧ ((p0 + s) % 32 + r) % 32 = t % 32 ∧
      (c0 = c1 → s = 0) ∧
      (∀ pre x post, profile = pre ++ x :: post → c0 ≠ c1 → (∀ y ∈ pre, y.bound < dist) → dist ≤ x.bound →
        s = x.time) ∧
      (∀ pre x, profile = pre ++ [x] → c0 ≠ c1 → (∀ y ∈ profile, y.bound < dist) → s = x.time) ∧
      (ProfileSound profile → s ≤ 150)) ∧
    (∀ g w : Nat, (g * w < a → effectiveCost a g w + g * w = a) ∧ (a ≤ g * w → effectiveCost a g w = 0)) ∧
    (ProfileSound profile → 1 ≤ m → m ≤ 3 → 1 ≤ a ∧ a ≤ 184)) ∧
  ∀ (s : State) (d : Drive) (r : Request),
    let moves := r.order = .read ∨ r.order = .write ∨ r.order = .verify
    let next := physOf s.map (s.geom d) d r.direct (r.next (s.geom d))
    (moves → s.costOf d r = effectiveCost
      (accessCost (s.profiles.get (s.geom d).profile) (s.monOf d).cylinder next.cyl (s.monOf d).sector next.sec
        s.policy.margin) r.age s.policy.agingWeight) ∧
    next.sec = r.next (s.geom d) % 32 ∧ (¬moves → s.costOf d r = 0)

/-- A selection on a free drive takes the earliest overdue entry, or else the earliest of least effective cost, which is
0 for the orders without blocks (R57, R58). The chosen entry is IN SERVICE with resume from continuation, the others
age by 1 up to 15, and the idle count is 0 (R59, R60, R135); a READ, WRITE or VERIFY has the seek of R12 asked for the
physical track of its next block, and nothing else changes. -/
def Obligations.SelectionTakesOverdueElseCheapest : Prop :=
  ∀ (s : State) (d : Drive) (pre : List Request) (r : Request) (post : List Request),
    s.queue d = pre ++ r :: post → (∀ x ∈ s.queue d, x.inService = false) →
    (∀ x ∈ pre ++ post, ¬(x.path = r.path ∧ x.tag = r.tag)) →
    ((15 ≤ r.age ∧ ∀ x ∈ pre, x.age < 15) ∨
      ((∀ x ∈ s.queue d, x.age < 15) ∧ (∀ x ∈ pre, s.costOf d r < s.costOf d x) ∧
        ∀ x ∈ post, s.costOf d r ≤ s.costOf d x)) →
    s.choose d = some r ∧
    (r.order ≠ .read → r.order ≠ .write → r.order ≠ .verify → s.costOf d r = 0) ∧
    ((s.monOf d).state = .ready → (r.order = .read ∨ r.order = .write ∨ r.order = .verify) →
      (∀ g, s.reservedBy d = some g → r.path ≠ .s ∧ s.group r.path = g) →
      let aged (x : Request) : Request := { x with age := min 15 (x.age + 1) }
      let t := (physOf s.map (s.geom d) d r.direct (r.next (s.geom d))).track
      ∃ u : State, exec (.selection d) s = .next u.settle ∧
        u.queue d = pre.map aged ++
          { r with inService := true, resume := r.continuation, continuation := false } :: post.map aged ∧
        u.scanOf d = { s.scanOf d with idle := 0 } ∧
        (t.cyl = (s.monOf d).cylinder →
          u.monOf d = { s.monOf d with state := .orienting, head := t.head } ∧
          u.sideOf d = { s.sideOf d with head := t.head }) ∧
        (t.cyl ≠ (s.monOf d).cylinder →
          u.monOf d = { s.monOf d with
            state := .seeking, head := t.head, target := t.cyl, cylinder := t.cyl, seekTimer := 0
            markCheck := .pending } ∧
          u.sideOf d = { s.sideOf d with head := t.head, motion := .seek t.cyl }) ∧
        (∀ e, e ≠ d → u.queue e = s.queue e ∧ u.monOf e = s.monOf e ∧ u.sideOf e = s.sideOf e ∧
          u.scanOf e = s.scanOf e) ∧
        u = { s with queues := u.queues, mon := u.mon, side := u.side, scans := u.scans })

/-- Service of the selected entry. One of a path outside the holder group ends RESERVED ELSEWHERE, its path marked
awaiting release (R150). A RESERVE of a group member reserves the drive, ends every waiting entry of a path outside the
group RESERVED ELSEWHERE with its path marked, and ends NORMAL (R148, R150). A RELEASE of a member of the holder group
frees the drive and sends RELEASED to the marked paths; it ends NORMAL in every case (R147, R151). The drive's monitor
stays as it is in these three. A POSITION on its cylinder ends NORMAL at once, and one off it has the seek asked for
(R16); a RECALIBRATE is begun, the mark check none (R17). The block that an ending names is by log entries 23 and 26. -/
def Obligations.ReservationsAreServedAtSelection : Prop :=
  ∀ (s : State) (d : Drive) (r : Request), (s.monOf d).state = .ready → s.serving d = none →
    s.choose d = some r →
    let outside (p : Path) (g : Nat) : Prop := p = .s ∨ s.group p ≠ g
    let served := ∀ g, s.reservedBy d = some g → ¬outside r.path g
    let normal : Ending := ⟨some r.tag, .normal, false, false, some d, 0, none, none⟩
    (∀ g, s.reservedBy d = some g → outside r.path g →
      ∃ u : State, exec (.selection d) s = .next u.settle ∧ u.mon = s.mon ∧ u.reserved = s.reserved ∧
        (u.port r.path).tags.get r.tag = .ending ∧ (u.port r.path).awaitRelease.get d = true ∧
        (s.engine.holder ≠ some (.host d r.path r.tag) →
          (u.port r.path).endings = (s.port r.path).endings ++ [s.unfinished d r .reservedElsewhere]) ∧
        ∀ x ∈ u.queue d, ¬(x.path = r.path ∧ x.tag = r.tag)) ∧
    (served → r.path ≠ .s → r.order = .reserve →
      ∃ u : State, exec (.selection d) s = .next u.settle ∧ u.mon = s.mon ∧
        u.reservedBy d = some (s.group r.path) ∧ (∀ e, e ≠ d → u.reservedBy e = s.reservedBy e) ∧
        (u.port r.path).tags.get r.tag = .ending ∧
        (s.engine.holder ≠ some (.host d r.path r.tag) → normal ∈ (u.port r.path).endings) ∧
        (∀ x ∈ s.queue d, outside x.path (s.group r.path) →
          (u.port x.path).tags.get x.tag = .ending ∧ (u.port x.path).awaitRelease.get d = true ∧
          (s.engine.holder ≠ some (.host d x.path x.tag) →
            s.unfinished d x .reservedElsewhere ∈ (u.port x.path).endings)) ∧
        (∀ y ∈ u.queue d, ¬outside y.path (s.group r.path) ∧ ¬(y.path = r.path ∧ y.tag = r.tag)) ∧
        (∀ x ∈ s.queue d, ¬outside x.path (s.group r.path) → ¬(x.path = r.path ∧ x.tag = r.tag) →
          ∃ y ∈ u.queue d, y.path = x.path ∧ y.tag = x.tag)) ∧
    (served → r.order = .release →
      ∃ u : State, exec (.selection d) s = .next u.settle ∧ u.mon = s.mon ∧ u.reservedBy d = none ∧
        (∀ e, e ≠ d → u.reservedBy e = s.reservedBy e) ∧ (u.port r.path).tags.get r.tag = .ending ∧
        (s.engine.holder ≠ some (.host d r.path r.tag) → normal ∈ (u.port r.path).endings) ∧
        (s.reservedBy d ≠ none → ∀ q, (s.port q).awaitRelease.get d = true →
          (⟨.released, d, .none⟩ : Notice) ∈ (u.port q).raw ∧ (u.port q).awaitRelease.get d = false)) ∧
    (served → r.order = .position →
      let t := (physOf s.map (s.geom d) d r.direct (r.next (s.geom d))).track
      ∃ u : State, exec (.selection d) s = .next u.settle ∧ u.reserved = s.reserved ∧
        (t.cyl = (s.monOf d).cylinder →
          u.monOf d = { s.monOf d with state := .ready, head := t.head } ∧
          (u.sideOf d).motion = (s.sideOf d).motion ∧ (u.port r.path).tags.get r.tag = .ending ∧
          (∀ x ∈ u.queue d, ¬(x.path = r.path ∧ x.tag = r.tag)) ∧
          (s.engine.holder ≠ some (.host d r.path r.tag) →
            (u.port r.path).endings = (s.port r.path).endings ++ [normal])) ∧
        (t.cyl ≠ (s.monOf d).cylinder →
          u.monOf d = { s.monOf d with
            state := .seeking, head := t.head, target := t.cyl, cylinder := t.cyl, seekTimer := 0
            markCheck := .pending } ∧
          (u.sideOf d).motion = .seek t.cyl ∧ u.ports = s.ports ∧
          ∃ x ∈ u.queue d, x.path = r.path ∧ x.tag = r.tag ∧ x.inService = true)) ∧
    (served → r.order = .recalibrate →
      ∃ u : State, exec (.selection d) s = .next u.settle ∧
        u.monOf d = { s.monOf d with
          state := .recalibrating, seekTimer := 0, markCheck := .none, recal := .order } ∧
        (u.sideOf d).motion = .recalibrate ∧ (∃ x ∈ u.queue d, x.path = r.path ∧ x.tag = r.tag ∧ x.inService = true) ∧
        (∀ e, e ≠ d → u.monOf e = s.monOf e ∧ u.queue e = s.queue e) ∧
        u = { s with mon := u.mon, side := u.side, queues := u.queues, scans := u.scans })

/-! ## Watch list -/

/-- A report without weight, or about a track that has none, changes nothing. Otherwise the list takes the weight: an
entry that names the track has its score raised, up to 255; a track without one gets a new entry at the end, after the
eviction of the earliest entry of lowest score not queued where the list is full (R112, R113). The entry is then
tested: at the threshold, neither queued nor unrelocatable, its home is queued, or its queued item set where the home
is known, or with auto-spare disabled WATCH THRESHOLD is raised to every path; a full relocation queue changes nothing
(R114). -/
def Obligations.WeightReachesTheThreshold : Prop :=
  ∀ (s : State) (d : Drive) (t : Track) (w : Nat),
    let names (e : WatchEntry) : Prop := e.drive = d ∧ e.track = t
    (w = 0 ∨ s.weighs d t = false → s.report d t w = s) ∧
    (∀ (pre : List WatchEntry) (e : WatchEntry) (post : List WatchEntry), w ≠ 0 → s.weighs d t = true →
      ((∃ e0, s.watch = pre ++ e0 :: post ∧ names e0 ∧ (∀ x ∈ pre ++ post, ¬names x) ∧
          e = { e0 with score := min 255 (e0.score + w) }) ∨
        (s.watch.length < 16 ∧ (∀ x ∈ s.watch, ¬names x) ∧ pre = s.watch ∧ post = [] ∧
          e = ⟨d, t, min 255 w, false, false⟩) ∨
        (∃ p x q, s.watch = p ++ x :: q ∧ s.watch.length = 16 ∧ (∀ y ∈ s.watch, ¬names y) ∧ x.queued = false ∧
          (∀ y ∈ p, y.queued = false → x.score < y.score) ∧ (∀ y ∈ q, y.queued = false → x.score ≤ y.score) ∧
          pre = p ++ q ∧ post = [] ∧ e = ⟨d, t, min 255 w, false, false⟩)) →
      let after (queued : Bool) : List WatchEntry := pre ++ { e with queued := queued } :: post
      let tested := s.policy.watchThreshold ≤ e.score ∧ e.queued = false ∧ e.unrelocatable = false
      (¬tested → s.report d t w = { s with watch := after e.queued }) ∧
      (tested → ∀ home, s.homeOf d t = some home →
        let known := (∃ x ∈ s.relocQ, x.drive = d ∧ x.home = home) ∨
          ∃ r, s.reloc = some r ∧ r.drive = d ∧ r.home = home
        ((s.geom d).autoSpare = false →
          (∀ p, (⟨.watchThreshold, d, .watch t e.score⟩ : Notice) ∈ ((s.report d t w).port p).raw) ∧
          s.report d t w = { s with watch := after false, ports := (s.report d t w).ports }) ∧
        ((s.geom d).autoSpare = true → known → s.report d t w = { s with watch := after true }) ∧
        ((s.geom d).autoSpare = true → ¬known → s.relocQ.length < 4 →
          s.report d t w = { s with watch := after true, relocQ := s.relocQ ++ [⟨d, home, .watch⟩] }) ∧
        ((s.geom d).autoSpare = true → ¬known → 4 ≤ s.relocQ.length →
          s.report d t w = { s with watch := after false })))

/-! ## Relocation -/

/-- A relocation starts with the earliest ORDER entry whose drive is READY with an empty queue, or where there is none
with the earliest such WATCH entry. With a FREE alternate and room in the map the entry leaves the queue, the PENDING
record is made, the buffer is owned and UNREAD, and the seek to the source track is asked for: the home, or its ACTIVE
alternate in a re-spare. Without an alternate the entry leaves all the same, and SPARE FAILED with its cause goes to
every path and the home's watch entries are marked unrelocatable. While the buffer has an owner nothing starts (R36,
R120). That an UNREAD block has no bytes is log entry 24's. -/
def Obligations.RelocationStartTakesAnAlternate : Prop :=
  ∀ s : State,
    (s.buffer.owned = true → exec .relocationStart s = .next s) ∧
    (∀ pre e post t, s.buffer.owned = false → s.relocQ = pre ++ e :: post →
      let idle (x : RelocEntry) : Prop := (s.monOf x.drive).state = .ready ∧ s.queue x.drive = []
      idle e → (e.source = .order ∨ ∀ x ∈ s.relocQ, x.source = .order → ¬idle x) →
      (∀ x ∈ pre, x.source = e.source → ¬idle x) →
      (∀ x ∈ pre, ¬(x.drive = e.drive ∧ x.home = e.home)) →
      lowestFree s.map (s.geom e.drive) e.drive = some t → s.map.length < 96 →
      let d := e.drive
      let spare := activeAlternate s.map d e.home
      let source := match spare with | some a => a | none => e.home
      ∃ u : State, exec .relocationStart s = .next u.settle ∧ u.relocQ = pre ++ post ∧
        u.reloc = some ⟨d, e.home, source, spare.isSome, t, .readPass, .first, .none, true⟩ ∧
        u.buffer = ⟨true, List.replicate 32 ⟨.unread, []⟩⟩ ∧
        (∀ x, x ∈ u.map ↔ x ∈ s.map ∨ x = ⟨d, t, .pending e.home⟩) ∧ u.map.length = s.map.length + 1 ∧
        u.scanOf d = { s.scanOf d with idle := 0 } ∧ (u.monOf d).head = source.head ∧
        (source.cyl = (s.monOf d).cylinder →
          (u.monOf d).state = .orienting ∧ Work.reloc d ∈ u.engine.candidates) ∧
        (source.cyl ≠ (s.monOf d).cylinder →
          (u.monOf d).state = .seeking ∧ (u.monOf d).target = source.cyl ∧ (u.monOf d).markCheck = .pending ∧
          (u.sideOf d).motion = .seek source.cyl ∧ u.engine = s.engine) ∧
        (∀ x, x ≠ d → u.monOf x = s.monOf x ∧ u.scanOf x = s.scanOf x) ∧ u.queues = s.queues ∧
        u.watch = s.watch ∧ u.ports = s.ports) ∧
    (∀ e cause, s.buffer.owned = false → s.relocQ = [e] → (s.monOf e.drive).state = .ready →
      s.queue e.drive = [] →
      ((lowestFree s.map (s.geom e.drive) e.drive = none ∧ cause = .poolExhausted) ∨
        (lowestFree s.map (s.geom e.drive) e.drive ≠ none ∧ 96 ≤ s.map.length ∧ cause = .mapFull)) →
      ∃ u : State, exec .relocationStart s = .next u.settle ∧ u.relocQ = [] ∧
        (∀ p, (⟨.spareFailed, e.drive, .spareFailed cause e.home⟩ : Notice) ∈ (u.port p).raw) ∧
        u.watch = s.watch.map (fun x => if x.drive = e.drive ∧ s.homeOf e.drive x.track = some e.home then
          { x with queued := false, unrelocatable := true } else x) ∧
        u = { s with relocQ := u.relocQ, ports := u.ports, watch := u.watch })

/-- The relocation's pass holds the engine with its 32 sectors begun and ended. -/
def passEnded (s : State) (d : Drive) (r : Reloc) : Prop :=
  s.engine.holder = some (.reloc d) ∧ s.reloc = some r ∧ r.drive = d ∧ s.engine.hand = none ∧
    s.engine.stop = .none ∧ s.engine.begun = 32

/-- The pass has released the engine and its drive is READY; the relocation is HELD, or already at its COMMIT where
the drive's queue is empty. -/
def readPassOver (s u : State) (d : Drive) (r : Reloc) : Prop :=
  u.trackWalk = none ∧ u.engine.holder = none ∧ u.engine.phase = .free ∧
  (s.queue d ≠ [] → u.reloc = some { r with stage := .held, rev := .none, holds := false } ∧
    (u.monOf d).state = .ready) ∧
  (s.queue d = [] → u.reloc = some { r with stage := .commit, rev := .none, holds := true } ∧
    (u.monOf d).head = r.alternate.head)

/-- At the end of the read pass's revolution each sector's outcome sets its buffer block, but for a block already GOOD:
CLEAN and CORRECTABLE make it GOOD with the bytes read, UNCORRECTABLE and MARK MISMATCH FAILING, DAMAGED DAMAGED (R121).
With FAILING blocks a track walk over exactly those begins at step 1 with its settings, and the pass is offered again;
with none the read pass is over (R103, R122; that the results meet the buffer at the end is log entry 16's, and that a
block not recovered keeps the bytes read is log entry 17's). -/
def Obligations.ReadPassRevolutionSetsTheBuffer : Prop :=
  ∀ (s : State) (d : Drive) (r : Reloc) (x : LadderStep), passEnded s d r → r.stage = .readPass →
    s.trackWalk = none → s.buffer.blocks.length = 32 → (s.engine.results.map (·.sec)).Nodup →
    (∀ y ∈ s.engine.results, y.sec < 32) → s.ladder[0]? = some x →
    ∃ u : State, exec .readPassRevolutionEnd s = .next u.settle ∧
      (∀ y ∈ s.engine.results, blockState s.buffer.blocks y.sec ≠ .good →
        u.buffer.blocks[y.sec]? = some ⟨(match y.outcome with
          | .clean => .good | .correctable => .good | .uncorrectable => .failing | .mismatch => .failing
          | .damaged => .damaged), y.bytes⟩) ∧
      (∀ i, (blockState s.buffer.blocks i = .good ∨ ∀ y ∈ s.engine.results, y.sec ≠ i) →
        u.buffer.blocks[i]? = s.buffer.blocks[i]?) ∧
      ((∃ i, i < 32 ∧ blockState u.buffer.blocks i = .failing) →
        (∃ w, u.trackWalk = some w ∧ w.drive = d ∧ w.track = r.source ∧ w.ladder = s.ladder ∧ w.step = 1 ∧
          w.left = x.rereads ∧ ∀ i, i ∈ w.failing ↔ i < 32 ∧ blockState u.buffer.blocks i = .failing) ∧
        u.sideOf d = { s.sideOf d with offset := x.offset, strobe := x.strobe } ∧ u.reloc = s.reloc ∧
        (u.monOf d).state = .orienting ∧ Work.reloc d ∈ u.engine.candidates ∧ u.engine.holder = none) ∧
      ((∀ i, i < 32 → blockState u.buffer.blocks i ≠ .failing) → readPassOver s u d r) ∧
      u.map = s.map ∧ u.watch = s.watch ∧ u.ports = s.ports ∧ u.queues = s.queues

/-- At the end of a revolution of the track walk the blocks reread meet the buffer, and those still FAILING stay in the
set. With none left the walk ends and the read pass is over; with rereads left the step is repeated; with none left the
next step follows with its settings; past the last step the blocks left are DAMAGED and the read pass is over, the
settings centred (R103, R122). The rereads left fall by 1 before the revolution, at the grant, which puts the step's
settings on the drive; a revolution that an index mismatch makes void lowers no count (R103, R72; that the grant is the
moment, and the bytes a block not recovered keeps, are log entry 17's; that the results meet the buffer at the end is
log entry 16's). -/
def Obligations.TrackWalkRevolutionAdvances : Prop :=
  (∀ (s : State) (d : Drive) (r : Reloc) (w : TrackWalk), passEnded s d r → r.stage = .readPass →
    s.trackWalk = some w →
    let blocks := s.engine.results.foldl takeResult s.buffer.blocks
    let rest := w.failing.filter fun i => blockState blocks i = .failing
    let again (u : State) : Prop := (u.monOf d).state = .orienting ∧ Work.reloc d ∈ u.engine.candidates ∧
      u.engine.holder = none ∧ u.reloc = s.reloc ∧ u.buffer = { s.buffer with blocks := blocks }
    ∃ u : State, exec .trackWalkRevolutionEnd s = .next u.settle ∧
      (rest = [] → readPassOver s u d r ∧ u.buffer = { s.buffer with blocks := blocks } ∧
        (u.sideOf d).offset = .none ∧ (u.sideOf d).strobe = .normal) ∧
      (rest ≠ [] → 0 < w.left →
        u.trackWalk = some { w with failing := rest } ∧ u.side = s.side ∧ again u) ∧
      (∀ x, rest ≠ [] → w.left = 0 → w.ladder[w.step]? = some x →
        u.trackWalk = some { w with failing := rest, step := w.step + 1, left := x.rereads } ∧
        u.sideOf d = { s.sideOf d with offset := x.offset, strobe := x.strobe } ∧ again u) ∧
      (rest ≠ [] → w.left = 0 → w.ladder[w.step]? = none → readPassOver s u d r ∧
        (∀ i, blockState blocks i = .failing → blockState u.buffer.blocks i = .damaged) ∧
        (∀ i, blockState blocks i ≠ .failing → u.buffer.blocks[i]? = blocks[i]?) ∧
        (u.sideOf d).offset = .none ∧ (u.sideOf d).strobe = .normal) ∧
      u.map = s.map ∧ u.watch = s.watch ∧ u.ports = s.ports ∧ u.queues = s.queues) ∧
  ∀ (s : State) (d : Drive) (r : Reloc) (w : TrackWalk) (x : LadderStep), s.reloc = some r → r.drive = d →
    r.stage = .readPass → s.trackWalk = some w →
    (s.engine.phase = .free → s.engine.candidates = [.reloc d] → w.ladder[w.step - 1]? = some x →
      s.grant.engine.holder = some (.reloc d) ∧ s.grant.engine.phase = .pass ∧
      s.grant.trackWalk = some { w with left := w.left - 1 } ∧
      s.grant.sideOf d = { s.sideOf d with offset := x.offset, strobe := x.strobe }) ∧
    (s.engine.holder = some (.reloc d) → s.engine.stop = .none → s.serving d = none →
      (s.monOf d).state = .transferring → (s.monOf d).sector ≠ 31 → (s.monOf d).mismatch = 0 →
      ∃ u : State, exec (.indexPulse d) s = .next u.settle ∧
        u.trackWalk = some { w with left := w.left + 1 } ∧ u.buffer = s.buffer ∧ u.engine.holder = none ∧
        u.engine.phase = .free ∧ u.engine.results = [] ∧ (u.monOf d).state = .orienting ∧
        Work.reloc d ∈ u.engine.candidates)

/-- The director's own work starts only on a drive that is READY with an empty queue: the COMMIT of a HELD relocation,
with the seek to the alternate track (R125), and a scan pass on a drive with scan enabled, phase NONE, idle long enough
and no relocation waiting, with the seek to the pointer's track (R136). A drive already on the cylinder is ORIENTING
and its pass a candidate at once. Where the conditions do not hold, nothing changes (log entries 2 and 3). A read pass
stopped by a reseek failure is resumed with a new seek to its source on such a drive; with no block FAILING or UNREAD it
is complete instead, and its COMMIT begins there at once (R122, R123). -/
def Obligations.PassesStartOnAnIdleDrive : Prop :=
  ∀ s : State,
    let sought (u : State) (d : Drive) (t : Track) (w : Work) : Prop :=
      (u.monOf d).head = t.head ∧
      (t.cyl = (s.monOf d).cylinder → (u.monOf d).state = .orienting ∧ w ∈ u.engine.candidates ∧
        (u.sideOf d).motion = (s.sideOf d).motion) ∧
      (t.cyl ≠ (s.monOf d).cylinder → (u.monOf d).state = .seeking ∧ (u.monOf d).target = t.cyl ∧
        (u.monOf d).markCheck = .pending ∧ (u.sideOf d).motion = .seek t.cyl ∧ u.engine = s.engine) ∧
      (∀ e, e ≠ d → u.monOf e = s.monOf e ∧ u.scanOf e = s.scanOf e)
    let idle (d : Drive) : Prop := (s.monOf d).state = .ready ∧ s.queue d = []
    (∀ r, s.reloc = some r → r.stage = .held → idle r.drive →
      ∃ u : State, exec .commitBegin s = .next u.settle ∧
        u.reloc = some { r with stage := .commit, rev := .none, holds := true } ∧
        (u.scanOf r.drive).idle = 0 ∧ sought u r.drive r.alternate (.reloc r.drive) ∧
        u = { s with reloc := u.reloc, mon := u.mon, side := u.side, scans := u.scans, engine := u.engine }) ∧
    ((∀ r, s.reloc = some r → r.stage ≠ .held ∨ ¬idle r.drive) → exec .commitBegin s = .next s.settle) ∧
    ∀ d : Drive,
      let ready := (s.geom d).scan = true ∧ idle d ∧ (s.scanOf d).phase = .none ∧
        s.policy.scanIdle ≤ (s.scanOf d).idle ∧ (∀ r, s.reloc = some r → r.drive ≠ d) ∧
        (s.buffer.owned = true ∨ ∀ e ∈ s.relocQ, e.drive ≠ d)
      (ready → ∃ u : State, exec (.scanPassStart d) s = .next u.settle ∧
        u.scanOf d = ⟨(s.scanOf d).idle,
          (if (s.monOf d).pointer.cyl = (s.monOf d).cylinder then .candidate else .seeking), []⟩ ∧
        sought u d (s.monOf d).pointer (.scan d) ∧
        u = { s with mon := u.mon, side := u.side, scans := u.scans, engine := u.engine }) ∧
      (¬ready → exec (.scanPassStart d) s = .next s.settle) ∧
      ∀ r, s.reloc = some r → r.stage = .readPass → r.holds = false → r.drive = d →
        let complete := ∀ b ∈ s.buffer.blocks, b.st = .good ∨ b.st = .damaged
        (¬complete → idle d → s.resumeRead.reloc = some { r with holds := true } ∧
          sought s.resumeRead d r.source (.reloc d)) ∧
        (complete → idle d → s.resumeRead.reloc = some { r with stage := .commit, rev := .none, holds := true } ∧
          sought s.resumeRead d r.alternate (.reloc d)) ∧
        (complete → ¬idle d → s.resumeRead = { s with reloc := some { r with stage := .held } }) ∧
        (¬complete → ¬idle d → s.resumeRead = s)

/-- At the end of the verify revolution the COMMIT succeeds when all 32 sectors were verified, CLEAN for GOOD and
DAMAGED for DAMAGED: the PENDING record is ACTIVE and the home's old one WITHDRAWN, the buffer is free, the watch
entries of home and source are gone, SPARED goes to every path and POOL LOW too at or below the mark, and the drive is
READY (R37, R127). When a sector fails, the alternate is WITHDRAWN; in round FIRST with another alternate the relocation
keeps its buffer in round SECOND; otherwise it fails with SPARE FAILED to every path and the home's watch entries marked
(R38, R128). That the results are judged at the end is log entry 16's. -/
def Obligations.VerifyRevolutionDecidesTheCommit : Prop :=
  ∀ (s : State) (d : Drive) (r : Reloc), passEnded s d r → r.stage = .commit → r.rev = .verify →
    let ok (y : PassResult) : Prop :=
      (blockState s.buffer.blocks y.sec = .good ∧ y.outcome = .clean) ∨
        (blockState s.buffer.blocks y.sec = .damaged ∧ y.outcome = .damaged)
    let good := s.engine.results.length = 32 ∧ ∀ y ∈ s.engine.results, ok y
    let withdrawn := s.map.map fun (x : MapRec) =>
      if x.drive = d ∧ x.pendingHome ≠ none then { x with kind := .withdrawn } else x
    let released (u : State) : Prop := u.engine.holder = none ∧ u.engine.phase = .free ∧ u.queues = s.queues ∧
      (∀ e, e ≠ d → u.monOf e = s.monOf e)
    ∃ u : State, exec .verifyRevolutionEnd s = .next u.settle ∧ released u ∧
      (good → u.reloc = none ∧ u.buffer = Buffer.free ∧ (u.monOf d).state = .ready ∧
        u.map = s.map.map (fun x => if x.drive = d then
          match x.kind with
          | .pending h => { x with kind := .active h }
          | .active h => if h = r.home then { x with kind := .withdrawn } else x
          | .withdrawn => x
          else x) ∧
        u.watch = s.watch.filter (fun e => ¬(e.drive = d ∧ (e.track = r.home ∨ e.track = r.source))) ∧
        (∀ p, (⟨.spared, d, .spared r.home r.alternate (damagedCount s.buffer.blocks)⟩ : Notice) ∈ (u.port p).raw) ∧
        (freeCount u.map (s.geom d) d ≤ s.policy.poolLow →
          ∀ p, (⟨.poolLow, d, .pool (freeCount u.map (s.geom d) d)⟩ : Notice) ∈ (u.port p).raw)) ∧
      (∀ t, ¬good → r.round = .first → lowestFree withdrawn (s.geom d) d = some t → s.map.length < 96 →
        (∀ x, x ∈ u.map ↔ x ∈ withdrawn ∨ x = ⟨d, t, .pending r.home⟩) ∧ u.buffer = s.buffer ∧
        u.watch = s.watch ∧ u.ports = s.ports ∧
        (s.queue d ≠ [] → (u.monOf d).state = .ready ∧ u.reloc = some { r with
          alternate := t, round := .second, stage := .held, rev := .none, holds := false }) ∧
        (s.queue d = [] → u.reloc = some { r with
          alternate := t, round := .second, stage := .commit, rev := .none, holds := true })) ∧
      (¬good → (r.round = .second ∨ lowestFree withdrawn (s.geom d) d = none ∨ 96 ≤ s.map.length) →
        u.map = withdrawn ∧ u.reloc = none ∧ u.buffer = Buffer.free ∧ (u.monOf d).state = .ready ∧
        (∀ p, (⟨.spareFailed, d, .spareFailed .verify r.home⟩ : Notice) ∈ (u.port p).raw) ∧
        u.watch = s.watch.map (fun x => if x.drive = d ∧ s.homeOf d x.track = some r.home then
          { x with queued := false, unrelocatable := true } else x))

/-! ## Media scan -/

/-- A completed pass is scored and its pointer advanced in one step. Wholly clean, it halves the score of the track's
watch entry, which leaves at 0; otherwise it is one report of the sum of its weights (R140). The pointer goes to the
next head, then the next cylinder, then (0, 0), over each track in turn that the map makes skipped, however many lie in
a row before the next that is not, within one round of the drive's tracks (R141). The drive gives the engine back; it is
READY, and where R136 holds the next pass starts in the same step (R137). That the results stand until the end is log
entry 16's. -/
def Obligations.CompletedScanIsScored : Prop :=
  ∀ (s : State) (d : Drive), s.engine.holder = some (.scan d) → s.engine.hand = none → s.engine.stop = .none →
    (s.scanOf d).results.length = 32 →
    let g := s.geom d
    let t := (s.monOf d).pointer
    let next (x : Track) : Track :=
      if x.head + 1 < g.heads then ⟨x.cyl, x.head + 1⟩ else if x.cyl + 1 < g.cyls then ⟨x.cyl + 1, 0⟩ else ⟨0, 0⟩
    let clean := ∀ o ∈ (s.scanOf d).results, o = .clean
    let weight := ((s.scanOf d).results.map fun o => match o with
      | .clean => 0 | .correctable => 1 | .uncorrectable => 16 | .mismatch => 16 | .damaged => 0).sum
    ∃ u : State, exec (.scanPassComplete d) s = .next u.settle ∧
      (clean → u.watch = (s.watch.map fun e => if e.drive = d ∧ e.track = t then
          { e with score := e.score / 2 } else e).filter (fun e => ¬(e.drive = d ∧ e.track = t ∧ e.score = 0)) ∧
        u.relocQ = s.relocQ ∧ u.ports = s.ports) ∧
      (¬clean → u.watch = (s.report d t weight).watch ∧ u.relocQ = (s.report d t weight).relocQ ∧
        u.ports = (s.report d t weight).ports) ∧
      (∀ n, n < g.cyls * g.heads → (∀ k, k < n → skipped s.map g d (Nat.repeat next (k + 1) t) = true) →
        skipped s.map g d (Nat.repeat next (n + 1) t) = false → (u.monOf d).pointer = Nat.repeat next (n + 1) t) ∧
      u.engine.holder = none ∧ u.engine.phase = .free ∧ (u.scanOf d).results = [] ∧
      (u.scanOf d).idle = (s.scanOf d).idle ∧
      (g.scan = false ∨ s.queue d ≠ [] ∨ (s.scanOf d).idle < s.policy.scanIdle →
        (u.monOf d).state = .ready ∧ (u.scanOf d).phase = .none) ∧
      (clean → g.scan = true → s.queue d = [] → s.policy.scanIdle ≤ (s.scanOf d).idle →
        (∀ r, s.reloc = some r → r.drive ≠ d) → (s.buffer.owned = true ∨ ∀ e ∈ s.relocQ, e.drive ≠ d) →
        (u.scanOf d).phase = .seeking ∨ (u.scanOf d).phase = .candidate) ∧
      u.map = s.map ∧ u.queues = s.queues ∧ ∀ e, e ≠ d → u.monOf e = s.monOf e ∧ u.scanOf e = s.scanOf e

/-! ## Invariants that every step keeps -/

/-- Every step keeps the spare map in strictly ascending order of (drive, alternate) with at most 96 records (R33). Every
step keeps the buffer owned exactly while a relocation is active, and the map with exactly one PENDING record then, that
of the active relocation, and none otherwise (R35, R120). -/
def Obligations.StepKeepsTheMapInOrder : Prop :=
  (∀ s t : State, s.MapSound → step s = .next t → t.MapSound) ∧
  ∀ s t : State, s.RelocSound → step s = .next t → t.RelocSound

/-- Every step keeps the bounds of the drive queues, of the watch list and of the relocation queue, ages at most 15,
scores at most 255, no track twice in the watch list and no home twice in the relocation queue (R45, R46, R111,
R116). -/
def Obligations.StepKeepsTheListsBounded : Prop :=
  ∀ s t : State, s.ListsSound → step s = .next t → t.ListsSound

/-- Every step keeps at most one member for a kind and drive in each raw set (R166), group numbers of 0–15 with none
for S (R143), and the counters of the drive monitors and of scan control in their ranges. Every step keeps no two
requests with one path and tag, each with its slot OUTSTANDING, at most one of a drive in service, none on a FAULTED
drive, and every ending still to go out with a slot ENDING of its own (R45, R159); with that, a reserved drive's group
keeps a member and its queue holds no request of a path outside the group (R146). -/
def Obligations.StepKeepsNoticesGroupsAndCounters : Prop :=
  ∀ s t : State, step s = .next t →
    (s.NoticesSound → t.NoticesSound) ∧ (s.GroupsSound → t.GroupsSound) ∧ (s.CountersSound → t.CountersSound) ∧
    (s.RequestsSound → t.RequestsSound) ∧
    (s.RequestsSound → s.ReservationsSound → t.ReservationsSound)

/-- Every step keeps every loadable table within its ranges and the extents in use without overlap: no sequence of
loads brings an invalid entry into force (R24, R95, R156, R173, R175, R178). -/
def Obligations.StepKeepsTheTablesValid : Prop :=
  ∀ s t : State, s.TablesSound → step s = .next t → t.TablesSound

/-! ## Table entries as bytes -/

/-- An entry of each loadable table that is in range reads back from the bytes a fetch gives it, every item with it;
of the spare map the ACTIVE and WITHDRAWN records do, and a PENDING one is invalid in a load (R174–R178; the unassigned
bits of a GEOMETRY entry's flags are log entry 56's). -/
def Obligations.TableEntriesReadBack : Prop :=
  (∀ g : Geometry, g.Sound → geometryOf g.bytes = some g) ∧
  (∀ p : List SeekPoint, ProfileSound p → profileOf (profileBytes p) = some p) ∧
  (∀ r : MapRec, r.alt.cyl ≤ 1023 → r.alt.head ≤ 15 →
    (∀ h, r.kind = .active h → h.cyl ≤ 1023 → h.head ≤ 15 → mapRecOf r.drive r.bytes = some r) ∧
    (r.kind = .withdrawn → mapRecOf r.drive r.bytes = some r) ∧
    (∀ h, r.kind = .pending h → mapRecOf r.drive r.bytes = none)) ∧
  (∀ e : Extent, e.Sound → extentOf e.bytes = some e) ∧
  (∀ x : LadderStep, 1 ≤ x.rereads → x.rereads ≤ 4 → ladderStepOf x.bytes = some x) ∧
  (∀ p : Policy, p.Sound → policyOf p.bytes = some p)
end

