-- ==== Sys2Proof/Laws/State.lean ====
section
/-! SUPPORT. Reads of State after each update: one lemma per field per update. -/

namespace Sys2Proof

@[simp] theorem PerDrive.get_set_same {α : Type} (v : PerDrive α) (d : Drive) (x : α) : (v.set d x).get d = x := by
  revert d; intro d; match d with
  | 0 => rfl | 1 => rfl | 2 => rfl | 3 => rfl | 4 => rfl | 5 => rfl | 6 => rfl | 7 => rfl

theorem PerDrive.get_set_other {α : Type} (v : PerDrive α) (d e : Drive) (x : α) (h : e ≠ d) :
    (v.set d x).get e = v.get e := by
  match d, e with
  | 0, 0 | 1, 1 | 2, 2 | 3, 3 | 4, 4 | 5, 5 | 6, 6 | 7, 7 => exact absurd rfl h
  | 0, 1 | 0, 2 | 0, 3 | 0, 4 | 0, 5 | 0, 6 | 0, 7 => rfl
  | 1, 0 | 1, 2 | 1, 3 | 1, 4 | 1, 5 | 1, 6 | 1, 7 => rfl
  | 2, 0 | 2, 1 | 2, 3 | 2, 4 | 2, 5 | 2, 6 | 2, 7 => rfl
  | 3, 0 | 3, 1 | 3, 2 | 3, 4 | 3, 5 | 3, 6 | 3, 7 => rfl
  | 4, 0 | 4, 1 | 4, 2 | 4, 3 | 4, 5 | 4, 6 | 4, 7 => rfl
  | 5, 0 | 5, 1 | 5, 2 | 5, 3 | 5, 4 | 5, 6 | 5, 7 => rfl
  | 6, 0 | 6, 1 | 6, 2 | 6, 3 | 6, 4 | 6, 5 | 6, 7 => rfl
  | 7, 0 | 7, 1 | 7, 2 | 7, 3 | 7, 4 | 7, 5 | 7, 6 => rfl

@[simp] theorem PerDrive.get_const {α : Type} (x : α) (d : Drive) : (PerDrive.const x).get d = x := by
  match d with
  | 0 => rfl | 1 => rfl | 2 => rfl | 3 => rfl | 4 => rfl | 5 => rfl | 6 => rfl | 7 => rfl

@[simp] theorem PerPath.get_set_same {α : Type} (v : PerPath α) (p : Path) (x : α) : (v.set p x).get p = x := by
  cases p <;> rfl

theorem PerPath.get_set_other {α : Type} (v : PerPath α) (p q : Path) (x : α) (h : q ≠ p) :
    (v.set p x).get q = v.get q := by
  cases p <;> cases q <;> first | rfl | exact absurd rfl h

@[simp] theorem Four.get_set_same {α : Type} (v : Four α) (t : Fin 4) (x : α) : (v.set t x).get t = x := by
  match t with
  | 0 => rfl | 1 => rfl | 2 => rfl | 3 => rfl

theorem Four.get_set_other {α : Type} (v : Four α) (t u : Fin 4) (x : α) (h : u ≠ t) :
    (v.set t x).get u = v.get u := by
  match t, u with
  | 0, 0 | 1, 1 | 2, 2 | 3, 3 => exact absurd rfl h
  | 0, 1 | 0, 2 | 0, 3 | 1, 0 | 1, 2 | 1, 3 => rfl
  | 2, 0 | 2, 1 | 2, 3 | 3, 0 | 3, 1 | 3, 2 => rfl

@[simp] theorem Four.get_const {α : Type} (x : α) (t : Fin 4) : (Four.const x).get t = x := by
  match t with
  | 0 => rfl | 1 => rfl | 2 => rfl | 3 => rfl

end Sys2Proof

namespace Sys2Proof.Machine

/-! ### `State.setGate` -/

@[simp] theorem State.setGate_gate (s : State) (x : Option Gate) : (s.setGate x).gate = x := rfl
@[simp] theorem State.setGate_lastWrite (s : State) (x : Option Gate) : (s.setGate x).lastWrite = s.lastWrite := rfl
@[simp] theorem State.setGate_lastRead (s : State) (x : Option Gate) : (s.setGate x).lastRead = s.lastRead := rfl
@[simp] theorem State.setGate_engine (s : State) (x : Option Gate) : (s.setGate x).engine = s.engine := rfl
@[simp] theorem State.setGate_walk (s : State) (x : Option Gate) : (s.setGate x).walk = s.walk := rfl
@[simp] theorem State.setGate_trackWalk (s : State) (x : Option Gate) : (s.setGate x).trackWalk = s.trackWalk := rfl
@[simp] theorem State.setGate_notes (s : State) (x : Option Gate) : (s.setGate x).notes = s.notes := rfl
@[simp] theorem State.setGate_watch (s : State) (x : Option Gate) : (s.setGate x).watch = s.watch := rfl
@[simp] theorem State.setGate_relocQ (s : State) (x : Option Gate) : (s.setGate x).relocQ = s.relocQ := rfl
@[simp] theorem State.setGate_reloc (s : State) (x : Option Gate) : (s.setGate x).reloc = s.reloc := rfl
@[simp] theorem State.setGate_buffer (s : State) (x : Option Gate) : (s.setGate x).buffer = s.buffer := rfl
@[simp] theorem State.setGate_map (s : State) (x : Option Gate) : (s.setGate x).map = s.map := rfl
@[simp] theorem State.setGate_profiles (s : State) (x : Option Gate) : (s.setGate x).profiles = s.profiles := rfl
@[simp] theorem State.setGate_extents (s : State) (x : Option Gate) : (s.setGate x).extents = s.extents := rfl
@[simp] theorem State.setGate_ladder (s : State) (x : Option Gate) : (s.setGate x).ladder = s.ladder := rfl
@[simp] theorem State.setGate_policy (s : State) (x : Option Gate) : (s.setGate x).policy = s.policy := rfl
@[simp] theorem State.setGate_load (s : State) (x : Option Gate) : (s.setGate x).load = s.load := rfl
@[simp] theorem State.setGate_lastHost (s : State) (x : Option Gate) : (s.setGate x).lastHost = s.lastHost := rfl
@[simp] theorem State.setGate_choices (s : State) (x : Option Gate) : (s.setGate x).choices = s.choices := rfl
@[simp] theorem State.setGate_pending (s : State) (x : Option Gate) : (s.setGate x).pending = s.pending := rfl
@[simp] theorem State.setGate_mon (s : State) (x : Option Gate) : (s.setGate x).mon = s.mon := rfl
@[simp] theorem State.setGate_side (s : State) (x : Option Gate) : (s.setGate x).side = s.side := rfl
@[simp] theorem State.setGate_queues (s : State) (x : Option Gate) : (s.setGate x).queues = s.queues := rfl
@[simp] theorem State.setGate_scans (s : State) (x : Option Gate) : (s.setGate x).scans = s.scans := rfl
@[simp] theorem State.setGate_geometry (s : State) (x : Option Gate) : (s.setGate x).geometry = s.geometry := rfl
@[simp] theorem State.setGate_reserved (s : State) (x : Option Gate) : (s.setGate x).reserved = s.reserved := rfl
@[simp] theorem State.setGate_groups (s : State) (x : Option Gate) : (s.setGate x).groups = s.groups := rfl
@[simp] theorem State.setGate_ports (s : State) (x : Option Gate) : (s.setGate x).ports = s.ports := rfl
@[simp] theorem State.setGate_monOf (s : State) (x : Option Gate) (d : Drive) : (s.setGate x).monOf d = s.monOf d := rfl
@[simp] theorem State.setGate_sideOf (s : State) (x : Option Gate) (d : Drive) : (s.setGate x).sideOf d = s.sideOf d := rfl
@[simp] theorem State.setGate_queue (s : State) (x : Option Gate) (d : Drive) : (s.setGate x).queue d = s.queue d := rfl
@[simp] theorem State.setGate_scanOf (s : State) (x : Option Gate) (d : Drive) : (s.setGate x).scanOf d = s.scanOf d := rfl
@[simp] theorem State.setGate_geom (s : State) (x : Option Gate) (d : Drive) : (s.setGate x).geom d = s.geom d := rfl
@[simp] theorem State.setGate_reservedBy (s : State) (x : Option Gate) (d : Drive) : (s.setGate x).reservedBy d = s.reservedBy d := rfl
@[simp] theorem State.setGate_group (s : State) (x : Option Gate) (p : Path) : (s.setGate x).group p = s.group p := rfl
@[simp] theorem State.setGate_port (s : State) (x : Option Gate) (p : Path) : (s.setGate x).port p = s.port p := rfl

/-! ### `State.setLastWrite` -/

@[simp] theorem State.setLastWrite_gate (s : State) (x : Option WriteOut) : (s.setLastWrite x).gate = s.gate := rfl
@[simp] theorem State.setLastWrite_lastWrite (s : State) (x : Option WriteOut) : (s.setLastWrite x).lastWrite = x := rfl
@[simp] theorem State.setLastWrite_lastRead (s : State) (x : Option WriteOut) : (s.setLastWrite x).lastRead = s.lastRead := rfl
@[simp] theorem State.setLastWrite_engine (s : State) (x : Option WriteOut) : (s.setLastWrite x).engine = s.engine := rfl
@[simp] theorem State.setLastWrite_walk (s : State) (x : Option WriteOut) : (s.setLastWrite x).walk = s.walk := rfl
@[simp] theorem State.setLastWrite_trackWalk (s : State) (x : Option WriteOut) : (s.setLastWrite x).trackWalk = s.trackWalk := rfl
@[simp] theorem State.setLastWrite_notes (s : State) (x : Option WriteOut) : (s.setLastWrite x).notes = s.notes := rfl
@[simp] theorem State.setLastWrite_watch (s : State) (x : Option WriteOut) : (s.setLastWrite x).watch = s.watch := rfl
@[simp] theorem State.setLastWrite_relocQ (s : State) (x : Option WriteOut) : (s.setLastWrite x).relocQ = s.relocQ := rfl
@[simp] theorem State.setLastWrite_reloc (s : State) (x : Option WriteOut) : (s.setLastWrite x).reloc = s.reloc := rfl
@[simp] theorem State.setLastWrite_buffer (s : State) (x : Option WriteOut) : (s.setLastWrite x).buffer = s.buffer := rfl
@[simp] theorem State.setLastWrite_map (s : State) (x : Option WriteOut) : (s.setLastWrite x).map = s.map := rfl
@[simp] theorem State.setLastWrite_profiles (s : State) (x : Option WriteOut) : (s.setLastWrite x).profiles = s.profiles := rfl
@[simp] theorem State.setLastWrite_extents (s : State) (x : Option WriteOut) : (s.setLastWrite x).extents = s.extents := rfl
@[simp] theorem State.setLastWrite_ladder (s : State) (x : Option WriteOut) : (s.setLastWrite x).ladder = s.ladder := rfl
@[simp] theorem State.setLastWrite_policy (s : State) (x : Option WriteOut) : (s.setLastWrite x).policy = s.policy := rfl
@[simp] theorem State.setLastWrite_load (s : State) (x : Option WriteOut) : (s.setLastWrite x).load = s.load := rfl
@[simp] theorem State.setLastWrite_lastHost (s : State) (x : Option WriteOut) : (s.setLastWrite x).lastHost = s.lastHost := rfl
@[simp] theorem State.setLastWrite_choices (s : State) (x : Option WriteOut) : (s.setLastWrite x).choices = s.choices := rfl
@[simp] theorem State.setLastWrite_pending (s : State) (x : Option WriteOut) : (s.setLastWrite x).pending = s.pending := rfl
@[simp] theorem State.setLastWrite_mon (s : State) (x : Option WriteOut) : (s.setLastWrite x).mon = s.mon := rfl
@[simp] theorem State.setLastWrite_side (s : State) (x : Option WriteOut) : (s.setLastWrite x).side = s.side := rfl
@[simp] theorem State.setLastWrite_queues (s : State) (x : Option WriteOut) : (s.setLastWrite x).queues = s.queues := rfl
@[simp] theorem State.setLastWrite_scans (s : State) (x : Option WriteOut) : (s.setLastWrite x).scans = s.scans := rfl
@[simp] theorem State.setLastWrite_geometry (s : State) (x : Option WriteOut) : (s.setLastWrite x).geometry = s.geometry := rfl
@[simp] theorem State.setLastWrite_reserved (s : State) (x : Option WriteOut) : (s.setLastWrite x).reserved = s.reserved := rfl
@[simp] theorem State.setLastWrite_groups (s : State) (x : Option WriteOut) : (s.setLastWrite x).groups = s.groups := rfl
@[simp] theorem State.setLastWrite_ports (s : State) (x : Option WriteOut) : (s.setLastWrite x).ports = s.ports := rfl
@[simp] theorem State.setLastWrite_monOf (s : State) (x : Option WriteOut) (d : Drive) : (s.setLastWrite x).monOf d = s.monOf d := rfl
@[simp] theorem State.setLastWrite_sideOf (s : State) (x : Option WriteOut) (d : Drive) : (s.setLastWrite x).sideOf d = s.sideOf d := rfl
@[simp] theorem State.setLastWrite_queue (s : State) (x : Option WriteOut) (d : Drive) : (s.setLastWrite x).queue d = s.queue d := rfl
@[simp] theorem State.setLastWrite_scanOf (s : State) (x : Option WriteOut) (d : Drive) : (s.setLastWrite x).scanOf d = s.scanOf d := rfl
@[simp] theorem State.setLastWrite_geom (s : State) (x : Option WriteOut) (d : Drive) : (s.setLastWrite x).geom d = s.geom d := rfl
@[simp] theorem State.setLastWrite_reservedBy (s : State) (x : Option WriteOut) (d : Drive) : (s.setLastWrite x).reservedBy d = s.reservedBy d := rfl
@[simp] theorem State.setLastWrite_group (s : State) (x : Option WriteOut) (p : Path) : (s.setLastWrite x).group p = s.group p := rfl
@[simp] theorem State.setLastWrite_port (s : State) (x : Option WriteOut) (p : Path) : (s.setLastWrite x).port p = s.port p := rfl

/-! ### `State.setLastRead` -/

@[simp] theorem State.setLastRead_gate (s : State) (x : Option ReadOut) : (s.setLastRead x).gate = s.gate := rfl
@[simp] theorem State.setLastRead_lastWrite (s : State) (x : Option ReadOut) : (s.setLastRead x).lastWrite = s.lastWrite := rfl
@[simp] theorem State.setLastRead_lastRead (s : State) (x : Option ReadOut) : (s.setLastRead x).lastRead = x := rfl
@[simp] theorem State.setLastRead_engine (s : State) (x : Option ReadOut) : (s.setLastRead x).engine = s.engine := rfl
@[simp] theorem State.setLastRead_walk (s : State) (x : Option ReadOut) : (s.setLastRead x).walk = s.walk := rfl
@[simp] theorem State.setLastRead_trackWalk (s : State) (x : Option ReadOut) : (s.setLastRead x).trackWalk = s.trackWalk := rfl
@[simp] theorem State.setLastRead_notes (s : State) (x : Option ReadOut) : (s.setLastRead x).notes = s.notes := rfl
@[simp] theorem State.setLastRead_watch (s : State) (x : Option ReadOut) : (s.setLastRead x).watch = s.watch := rfl
@[simp] theorem State.setLastRead_relocQ (s : State) (x : Option ReadOut) : (s.setLastRead x).relocQ = s.relocQ := rfl
@[simp] theorem State.setLastRead_reloc (s : State) (x : Option ReadOut) : (s.setLastRead x).reloc = s.reloc := rfl
@[simp] theorem State.setLastRead_buffer (s : State) (x : Option ReadOut) : (s.setLastRead x).buffer = s.buffer := rfl
@[simp] theorem State.setLastRead_map (s : State) (x : Option ReadOut) : (s.setLastRead x).map = s.map := rfl
@[simp] theorem State.setLastRead_profiles (s : State) (x : Option ReadOut) : (s.setLastRead x).profiles = s.profiles := rfl
@[simp] theorem State.setLastRead_extents (s : State) (x : Option ReadOut) : (s.setLastRead x).extents = s.extents := rfl
@[simp] theorem State.setLastRead_ladder (s : State) (x : Option ReadOut) : (s.setLastRead x).ladder = s.ladder := rfl
@[simp] theorem State.setLastRead_policy (s : State) (x : Option ReadOut) : (s.setLastRead x).policy = s.policy := rfl
@[simp] theorem State.setLastRead_load (s : State) (x : Option ReadOut) : (s.setLastRead x).load = s.load := rfl
@[simp] theorem State.setLastRead_lastHost (s : State) (x : Option ReadOut) : (s.setLastRead x).lastHost = s.lastHost := rfl
@[simp] theorem State.setLastRead_choices (s : State) (x : Option ReadOut) : (s.setLastRead x).choices = s.choices := rfl
@[simp] theorem State.setLastRead_pending (s : State) (x : Option ReadOut) : (s.setLastRead x).pending = s.pending := rfl
@[simp] theorem State.setLastRead_mon (s : State) (x : Option ReadOut) : (s.setLastRead x).mon = s.mon := rfl
@[simp] theorem State.setLastRead_side (s : State) (x : Option ReadOut) : (s.setLastRead x).side = s.side := rfl
@[simp] theorem State.setLastRead_queues (s : State) (x : Option ReadOut) : (s.setLastRead x).queues = s.queues := rfl
@[simp] theorem State.setLastRead_scans (s : State) (x : Option ReadOut) : (s.setLastRead x).scans = s.scans := rfl
@[simp] theorem State.setLastRead_geometry (s : State) (x : Option ReadOut) : (s.setLastRead x).geometry = s.geometry := rfl
@[simp] theorem State.setLastRead_reserved (s : State) (x : Option ReadOut) : (s.setLastRead x).reserved = s.reserved := rfl
@[simp] theorem State.setLastRead_groups (s : State) (x : Option ReadOut) : (s.setLastRead x).groups = s.groups := rfl
@[simp] theorem State.setLastRead_ports (s : State) (x : Option ReadOut) : (s.setLastRead x).ports = s.ports := rfl
@[simp] theorem State.setLastRead_monOf (s : State) (x : Option ReadOut) (d : Drive) : (s.setLastRead x).monOf d = s.monOf d := rfl
@[simp] theorem State.setLastRead_sideOf (s : State) (x : Option ReadOut) (d : Drive) : (s.setLastRead x).sideOf d = s.sideOf d := rfl
@[simp] theorem State.setLastRead_queue (s : State) (x : Option ReadOut) (d : Drive) : (s.setLastRead x).queue d = s.queue d := rfl
@[simp] theorem State.setLastRead_scanOf (s : State) (x : Option ReadOut) (d : Drive) : (s.setLastRead x).scanOf d = s.scanOf d := rfl
@[simp] theorem State.setLastRead_geom (s : State) (x : Option ReadOut) (d : Drive) : (s.setLastRead x).geom d = s.geom d := rfl
@[simp] theorem State.setLastRead_reservedBy (s : State) (x : Option ReadOut) (d : Drive) : (s.setLastRead x).reservedBy d = s.reservedBy d := rfl
@[simp] theorem State.setLastRead_group (s : State) (x : Option ReadOut) (p : Path) : (s.setLastRead x).group p = s.group p := rfl
@[simp] theorem State.setLastRead_port (s : State) (x : Option ReadOut) (p : Path) : (s.setLastRead x).port p = s.port p := rfl

/-! ### `State.setEngine` -/

@[simp] theorem State.setEngine_gate (s : State) (x : Engine) : (s.setEngine x).gate = s.gate := rfl
@[simp] theorem State.setEngine_lastWrite (s : State) (x : Engine) : (s.setEngine x).lastWrite = s.lastWrite := rfl
@[simp] theorem State.setEngine_lastRead (s : State) (x : Engine) : (s.setEngine x).lastRead = s.lastRead := rfl
@[simp] theorem State.setEngine_engine (s : State) (x : Engine) : (s.setEngine x).engine = x := rfl
@[simp] theorem State.setEngine_walk (s : State) (x : Engine) : (s.setEngine x).walk = s.walk := rfl
@[simp] theorem State.setEngine_trackWalk (s : State) (x : Engine) : (s.setEngine x).trackWalk = s.trackWalk := rfl
@[simp] theorem State.setEngine_notes (s : State) (x : Engine) : (s.setEngine x).notes = s.notes := rfl
@[simp] theorem State.setEngine_watch (s : State) (x : Engine) : (s.setEngine x).watch = s.watch := rfl
@[simp] theorem State.setEngine_relocQ (s : State) (x : Engine) : (s.setEngine x).relocQ = s.relocQ := rfl
@[simp] theorem State.setEngine_reloc (s : State) (x : Engine) : (s.setEngine x).reloc = s.reloc := rfl
@[simp] theorem State.setEngine_buffer (s : State) (x : Engine) : (s.setEngine x).buffer = s.buffer := rfl
@[simp] theorem State.setEngine_map (s : State) (x : Engine) : (s.setEngine x).map = s.map := rfl
@[simp] theorem State.setEngine_profiles (s : State) (x : Engine) : (s.setEngine x).profiles = s.profiles := rfl
@[simp] theorem State.setEngine_extents (s : State) (x : Engine) : (s.setEngine x).extents = s.extents := rfl
@[simp] theorem State.setEngine_ladder (s : State) (x : Engine) : (s.setEngine x).ladder = s.ladder := rfl
@[simp] theorem State.setEngine_policy (s : State) (x : Engine) : (s.setEngine x).policy = s.policy := rfl
@[simp] theorem State.setEngine_load (s : State) (x : Engine) : (s.setEngine x).load = s.load := rfl
@[simp] theorem State.setEngine_lastHost (s : State) (x : Engine) : (s.setEngine x).lastHost = s.lastHost := rfl
@[simp] theorem State.setEngine_choices (s : State) (x : Engine) : (s.setEngine x).choices = s.choices := rfl
@[simp] theorem State.setEngine_pending (s : State) (x : Engine) : (s.setEngine x).pending = s.pending := rfl
@[simp] theorem State.setEngine_mon (s : State) (x : Engine) : (s.setEngine x).mon = s.mon := rfl
@[simp] theorem State.setEngine_side (s : State) (x : Engine) : (s.setEngine x).side = s.side := rfl
@[simp] theorem State.setEngine_queues (s : State) (x : Engine) : (s.setEngine x).queues = s.queues := rfl
@[simp] theorem State.setEngine_scans (s : State) (x : Engine) : (s.setEngine x).scans = s.scans := rfl
@[simp] theorem State.setEngine_geometry (s : State) (x : Engine) : (s.setEngine x).geometry = s.geometry := rfl
@[simp] theorem State.setEngine_reserved (s : State) (x : Engine) : (s.setEngine x).reserved = s.reserved := rfl
@[simp] theorem State.setEngine_groups (s : State) (x : Engine) : (s.setEngine x).groups = s.groups := rfl
@[simp] theorem State.setEngine_ports (s : State) (x : Engine) : (s.setEngine x).ports = s.ports := rfl
@[simp] theorem State.setEngine_monOf (s : State) (x : Engine) (d : Drive) : (s.setEngine x).monOf d = s.monOf d := rfl
@[simp] theorem State.setEngine_sideOf (s : State) (x : Engine) (d : Drive) : (s.setEngine x).sideOf d = s.sideOf d := rfl
@[simp] theorem State.setEngine_queue (s : State) (x : Engine) (d : Drive) : (s.setEngine x).queue d = s.queue d := rfl
@[simp] theorem State.setEngine_scanOf (s : State) (x : Engine) (d : Drive) : (s.setEngine x).scanOf d = s.scanOf d := rfl
@[simp] theorem State.setEngine_geom (s : State) (x : Engine) (d : Drive) : (s.setEngine x).geom d = s.geom d := rfl
@[simp] theorem State.setEngine_reservedBy (s : State) (x : Engine) (d : Drive) : (s.setEngine x).reservedBy d = s.reservedBy d := rfl
@[simp] theorem State.setEngine_group (s : State) (x : Engine) (p : Path) : (s.setEngine x).group p = s.group p := rfl
@[simp] theorem State.setEngine_port (s : State) (x : Engine) (p : Path) : (s.setEngine x).port p = s.port p := rfl

/-! ### `State.setWalk` -/

@[simp] theorem State.setWalk_gate (s : State) (x : Option BlockWalk) : (s.setWalk x).gate = s.gate := rfl
@[simp] theorem State.setWalk_lastWrite (s : State) (x : Option BlockWalk) : (s.setWalk x).lastWrite = s.lastWrite := rfl
@[simp] theorem State.setWalk_lastRead (s : State) (x : Option BlockWalk) : (s.setWalk x).lastRead = s.lastRead := rfl
@[simp] theorem State.setWalk_engine (s : State) (x : Option BlockWalk) : (s.setWalk x).engine = s.engine := rfl
@[simp] theorem State.setWalk_walk (s : State) (x : Option BlockWalk) : (s.setWalk x).walk = x := rfl
@[simp] theorem State.setWalk_trackWalk (s : State) (x : Option BlockWalk) : (s.setWalk x).trackWalk = s.trackWalk := rfl
@[simp] theorem State.setWalk_notes (s : State) (x : Option BlockWalk) : (s.setWalk x).notes = s.notes := rfl
@[simp] theorem State.setWalk_watch (s : State) (x : Option BlockWalk) : (s.setWalk x).watch = s.watch := rfl
@[simp] theorem State.setWalk_relocQ (s : State) (x : Option BlockWalk) : (s.setWalk x).relocQ = s.relocQ := rfl
@[simp] theorem State.setWalk_reloc (s : State) (x : Option BlockWalk) : (s.setWalk x).reloc = s.reloc := rfl
@[simp] theorem State.setWalk_buffer (s : State) (x : Option BlockWalk) : (s.setWalk x).buffer = s.buffer := rfl
@[simp] theorem State.setWalk_map (s : State) (x : Option BlockWalk) : (s.setWalk x).map = s.map := rfl
@[simp] theorem State.setWalk_profiles (s : State) (x : Option BlockWalk) : (s.setWalk x).profiles = s.profiles := rfl
@[simp] theorem State.setWalk_extents (s : State) (x : Option BlockWalk) : (s.setWalk x).extents = s.extents := rfl
@[simp] theorem State.setWalk_ladder (s : State) (x : Option BlockWalk) : (s.setWalk x).ladder = s.ladder := rfl
@[simp] theorem State.setWalk_policy (s : State) (x : Option BlockWalk) : (s.setWalk x).policy = s.policy := rfl
@[simp] theorem State.setWalk_load (s : State) (x : Option BlockWalk) : (s.setWalk x).load = s.load := rfl
@[simp] theorem State.setWalk_lastHost (s : State) (x : Option BlockWalk) : (s.setWalk x).lastHost = s.lastHost := rfl
@[simp] theorem State.setWalk_choices (s : State) (x : Option BlockWalk) : (s.setWalk x).choices = s.choices := rfl
@[simp] theorem State.setWalk_pending (s : State) (x : Option BlockWalk) : (s.setWalk x).pending = s.pending := rfl
@[simp] theorem State.setWalk_mon (s : State) (x : Option BlockWalk) : (s.setWalk x).mon = s.mon := rfl
@[simp] theorem State.setWalk_side (s : State) (x : Option BlockWalk) : (s.setWalk x).side = s.side := rfl
@[simp] theorem State.setWalk_queues (s : State) (x : Option BlockWalk) : (s.setWalk x).queues = s.queues := rfl
@[simp] theorem State.setWalk_scans (s : State) (x : Option BlockWalk) : (s.setWalk x).scans = s.scans := rfl
@[simp] theorem State.setWalk_geometry (s : State) (x : Option BlockWalk) : (s.setWalk x).geometry = s.geometry := rfl
@[simp] theorem State.setWalk_reserved (s : State) (x : Option BlockWalk) : (s.setWalk x).reserved = s.reserved := rfl
@[simp] theorem State.setWalk_groups (s : State) (x : Option BlockWalk) : (s.setWalk x).groups = s.groups := rfl
@[simp] theorem State.setWalk_ports (s : State) (x : Option BlockWalk) : (s.setWalk x).ports = s.ports := rfl
@[simp] theorem State.setWalk_monOf (s : State) (x : Option BlockWalk) (d : Drive) : (s.setWalk x).monOf d = s.monOf d := rfl
@[simp] theorem State.setWalk_sideOf (s : State) (x : Option BlockWalk) (d : Drive) : (s.setWalk x).sideOf d = s.sideOf d := rfl
@[simp] theorem State.setWalk_queue (s : State) (x : Option BlockWalk) (d : Drive) : (s.setWalk x).queue d = s.queue d := rfl
@[simp] theorem State.setWalk_scanOf (s : State) (x : Option BlockWalk) (d : Drive) : (s.setWalk x).scanOf d = s.scanOf d := rfl
@[simp] theorem State.setWalk_geom (s : State) (x : Option BlockWalk) (d : Drive) : (s.setWalk x).geom d = s.geom d := rfl
@[simp] theorem State.setWalk_reservedBy (s : State) (x : Option BlockWalk) (d : Drive) : (s.setWalk x).reservedBy d = s.reservedBy d := rfl
@[simp] theorem State.setWalk_group (s : State) (x : Option BlockWalk) (p : Path) : (s.setWalk x).group p = s.group p := rfl
@[simp] theorem State.setWalk_port (s : State) (x : Option BlockWalk) (p : Path) : (s.setWalk x).port p = s.port p := rfl

/-! ### `State.setTrackWalk` -/

@[simp] theorem State.setTrackWalk_gate (s : State) (x : Option TrackWalk) : (s.setTrackWalk x).gate = s.gate := rfl
@[simp] theorem State.setTrackWalk_lastWrite (s : State) (x : Option TrackWalk) : (s.setTrackWalk x).lastWrite = s.lastWrite := rfl
@[simp] theorem State.setTrackWalk_lastRead (s : State) (x : Option TrackWalk) : (s.setTrackWalk x).lastRead = s.lastRead := rfl
@[simp] theorem State.setTrackWalk_engine (s : State) (x : Option TrackWalk) : (s.setTrackWalk x).engine = s.engine := rfl
@[simp] theorem State.setTrackWalk_walk (s : State) (x : Option TrackWalk) : (s.setTrackWalk x).walk = s.walk := rfl
@[simp] theorem State.setTrackWalk_trackWalk (s : State) (x : Option TrackWalk) : (s.setTrackWalk x).trackWalk = x := rfl
@[simp] theorem State.setTrackWalk_notes (s : State) (x : Option TrackWalk) : (s.setTrackWalk x).notes = s.notes := rfl
@[simp] theorem State.setTrackWalk_watch (s : State) (x : Option TrackWalk) : (s.setTrackWalk x).watch = s.watch := rfl
@[simp] theorem State.setTrackWalk_relocQ (s : State) (x : Option TrackWalk) : (s.setTrackWalk x).relocQ = s.relocQ := rfl
@[simp] theorem State.setTrackWalk_reloc (s : State) (x : Option TrackWalk) : (s.setTrackWalk x).reloc = s.reloc := rfl
@[simp] theorem State.setTrackWalk_buffer (s : State) (x : Option TrackWalk) : (s.setTrackWalk x).buffer = s.buffer := rfl
@[simp] theorem State.setTrackWalk_map (s : State) (x : Option TrackWalk) : (s.setTrackWalk x).map = s.map := rfl
@[simp] theorem State.setTrackWalk_profiles (s : State) (x : Option TrackWalk) : (s.setTrackWalk x).profiles = s.profiles := rfl
@[simp] theorem State.setTrackWalk_extents (s : State) (x : Option TrackWalk) : (s.setTrackWalk x).extents = s.extents := rfl
@[simp] theorem State.setTrackWalk_ladder (s : State) (x : Option TrackWalk) : (s.setTrackWalk x).ladder = s.ladder := rfl
@[simp] theorem State.setTrackWalk_policy (s : State) (x : Option TrackWalk) : (s.setTrackWalk x).policy = s.policy := rfl
@[simp] theorem State.setTrackWalk_load (s : State) (x : Option TrackWalk) : (s.setTrackWalk x).load = s.load := rfl
@[simp] theorem State.setTrackWalk_lastHost (s : State) (x : Option TrackWalk) : (s.setTrackWalk x).lastHost = s.lastHost := rfl
@[simp] theorem State.setTrackWalk_choices (s : State) (x : Option TrackWalk) : (s.setTrackWalk x).choices = s.choices := rfl
@[simp] theorem State.setTrackWalk_pending (s : State) (x : Option TrackWalk) : (s.setTrackWalk x).pending = s.pending := rfl
@[simp] theorem State.setTrackWalk_mon (s : State) (x : Option TrackWalk) : (s.setTrackWalk x).mon = s.mon := rfl
@[simp] theorem State.setTrackWalk_side (s : State) (x : Option TrackWalk) : (s.setTrackWalk x).side = s.side := rfl
@[simp] theorem State.setTrackWalk_queues (s : State) (x : Option TrackWalk) : (s.setTrackWalk x).queues = s.queues := rfl
@[simp] theorem State.setTrackWalk_scans (s : State) (x : Option TrackWalk) : (s.setTrackWalk x).scans = s.scans := rfl
@[simp] theorem State.setTrackWalk_geometry (s : State) (x : Option TrackWalk) : (s.setTrackWalk x).geometry = s.geometry := rfl
@[simp] theorem State.setTrackWalk_reserved (s : State) (x : Option TrackWalk) : (s.setTrackWalk x).reserved = s.reserved := rfl
@[simp] theorem State.setTrackWalk_groups (s : State) (x : Option TrackWalk) : (s.setTrackWalk x).groups = s.groups := rfl
@[simp] theorem State.setTrackWalk_ports (s : State) (x : Option TrackWalk) : (s.setTrackWalk x).ports = s.ports := rfl
@[simp] theorem State.setTrackWalk_monOf (s : State) (x : Option TrackWalk) (d : Drive) : (s.setTrackWalk x).monOf d = s.monOf d := rfl
@[simp] theorem State.setTrackWalk_sideOf (s : State) (x : Option TrackWalk) (d : Drive) : (s.setTrackWalk x).sideOf d = s.sideOf d := rfl
@[simp] theorem State.setTrackWalk_queue (s : State) (x : Option TrackWalk) (d : Drive) : (s.setTrackWalk x).queue d = s.queue d := rfl
@[simp] theorem State.setTrackWalk_scanOf (s : State) (x : Option TrackWalk) (d : Drive) : (s.setTrackWalk x).scanOf d = s.scanOf d := rfl
@[simp] theorem State.setTrackWalk_geom (s : State) (x : Option TrackWalk) (d : Drive) : (s.setTrackWalk x).geom d = s.geom d := rfl
@[simp] theorem State.setTrackWalk_reservedBy (s : State) (x : Option TrackWalk) (d : Drive) : (s.setTrackWalk x).reservedBy d = s.reservedBy d := rfl
@[simp] theorem State.setTrackWalk_group (s : State) (x : Option TrackWalk) (p : Path) : (s.setTrackWalk x).group p = s.group p := rfl
@[simp] theorem State.setTrackWalk_port (s : State) (x : Option TrackWalk) (p : Path) : (s.setTrackWalk x).port p = s.port p := rfl

/-! ### `State.setNotes` -/

@[simp] theorem State.setNotes_gate (s : State) (x : List Note) : (s.setNotes x).gate = s.gate := rfl
@[simp] theorem State.setNotes_lastWrite (s : State) (x : List Note) : (s.setNotes x).lastWrite = s.lastWrite := rfl
@[simp] theorem State.setNotes_lastRead (s : State) (x : List Note) : (s.setNotes x).lastRead = s.lastRead := rfl
@[simp] theorem State.setNotes_engine (s : State) (x : List Note) : (s.setNotes x).engine = s.engine := rfl
@[simp] theorem State.setNotes_walk (s : State) (x : List Note) : (s.setNotes x).walk = s.walk := rfl
@[simp] theorem State.setNotes_trackWalk (s : State) (x : List Note) : (s.setNotes x).trackWalk = s.trackWalk := rfl
@[simp] theorem State.setNotes_notes (s : State) (x : List Note) : (s.setNotes x).notes = x := rfl
@[simp] theorem State.setNotes_watch (s : State) (x : List Note) : (s.setNotes x).watch = s.watch := rfl
@[simp] theorem State.setNotes_relocQ (s : State) (x : List Note) : (s.setNotes x).relocQ = s.relocQ := rfl
@[simp] theorem State.setNotes_reloc (s : State) (x : List Note) : (s.setNotes x).reloc = s.reloc := rfl
@[simp] theorem State.setNotes_buffer (s : State) (x : List Note) : (s.setNotes x).buffer = s.buffer := rfl
@[simp] theorem State.setNotes_map (s : State) (x : List Note) : (s.setNotes x).map = s.map := rfl
@[simp] theorem State.setNotes_profiles (s : State) (x : List Note) : (s.setNotes x).profiles = s.profiles := rfl
@[simp] theorem State.setNotes_extents (s : State) (x : List Note) : (s.setNotes x).extents = s.extents := rfl
@[simp] theorem State.setNotes_ladder (s : State) (x : List Note) : (s.setNotes x).ladder = s.ladder := rfl
@[simp] theorem State.setNotes_policy (s : State) (x : List Note) : (s.setNotes x).policy = s.policy := rfl
@[simp] theorem State.setNotes_load (s : State) (x : List Note) : (s.setNotes x).load = s.load := rfl
@[simp] theorem State.setNotes_lastHost (s : State) (x : List Note) : (s.setNotes x).lastHost = s.lastHost := rfl
@[simp] theorem State.setNotes_choices (s : State) (x : List Note) : (s.setNotes x).choices = s.choices := rfl
@[simp] theorem State.setNotes_pending (s : State) (x : List Note) : (s.setNotes x).pending = s.pending := rfl
@[simp] theorem State.setNotes_mon (s : State) (x : List Note) : (s.setNotes x).mon = s.mon := rfl
@[simp] theorem State.setNotes_side (s : State) (x : List Note) : (s.setNotes x).side = s.side := rfl
@[simp] theorem State.setNotes_queues (s : State) (x : List Note) : (s.setNotes x).queues = s.queues := rfl
@[simp] theorem State.setNotes_scans (s : State) (x : List Note) : (s.setNotes x).scans = s.scans := rfl
@[simp] theorem State.setNotes_geometry (s : State) (x : List Note) : (s.setNotes x).geometry = s.geometry := rfl
@[simp] theorem State.setNotes_reserved (s : State) (x : List Note) : (s.setNotes x).reserved = s.reserved := rfl
@[simp] theorem State.setNotes_groups (s : State) (x : List Note) : (s.setNotes x).groups = s.groups := rfl
@[simp] theorem State.setNotes_ports (s : State) (x : List Note) : (s.setNotes x).ports = s.ports := rfl
@[simp] theorem State.setNotes_monOf (s : State) (x : List Note) (d : Drive) : (s.setNotes x).monOf d = s.monOf d := rfl
@[simp] theorem State.setNotes_sideOf (s : State) (x : List Note) (d : Drive) : (s.setNotes x).sideOf d = s.sideOf d := rfl
@[simp] theorem State.setNotes_queue (s : State) (x : List Note) (d : Drive) : (s.setNotes x).queue d = s.queue d := rfl
@[simp] theorem State.setNotes_scanOf (s : State) (x : List Note) (d : Drive) : (s.setNotes x).scanOf d = s.scanOf d := rfl
@[simp] theorem State.setNotes_geom (s : State) (x : List Note) (d : Drive) : (s.setNotes x).geom d = s.geom d := rfl
@[simp] theorem State.setNotes_reservedBy (s : State) (x : List Note) (d : Drive) : (s.setNotes x).reservedBy d = s.reservedBy d := rfl
@[simp] theorem State.setNotes_group (s : State) (x : List Note) (p : Path) : (s.setNotes x).group p = s.group p := rfl
@[simp] theorem State.setNotes_port (s : State) (x : List Note) (p : Path) : (s.setNotes x).port p = s.port p := rfl

/-! ### `State.setWatch` -/

@[simp] theorem State.setWatch_gate (s : State) (x : List WatchEntry) : (s.setWatch x).gate = s.gate := rfl
@[simp] theorem State.setWatch_lastWrite (s : State) (x : List WatchEntry) : (s.setWatch x).lastWrite = s.lastWrite := rfl
@[simp] theorem State.setWatch_lastRead (s : State) (x : List WatchEntry) : (s.setWatch x).lastRead = s.lastRead := rfl
@[simp] theorem State.setWatch_engine (s : State) (x : List WatchEntry) : (s.setWatch x).engine = s.engine := rfl
@[simp] theorem State.setWatch_walk (s : State) (x : List WatchEntry) : (s.setWatch x).walk = s.walk := rfl
@[simp] theorem State.setWatch_trackWalk (s : State) (x : List WatchEntry) : (s.setWatch x).trackWalk = s.trackWalk := rfl
@[simp] theorem State.setWatch_notes (s : State) (x : List WatchEntry) : (s.setWatch x).notes = s.notes := rfl
@[simp] theorem State.setWatch_watch (s : State) (x : List WatchEntry) : (s.setWatch x).watch = x := rfl
@[simp] theorem State.setWatch_relocQ (s : State) (x : List WatchEntry) : (s.setWatch x).relocQ = s.relocQ := rfl
@[simp] theorem State.setWatch_reloc (s : State) (x : List WatchEntry) : (s.setWatch x).reloc = s.reloc := rfl
@[simp] theorem State.setWatch_buffer (s : State) (x : List WatchEntry) : (s.setWatch x).buffer = s.buffer := rfl
@[simp] theorem State.setWatch_map (s : State) (x : List WatchEntry) : (s.setWatch x).map = s.map := rfl
@[simp] theorem State.setWatch_profiles (s : State) (x : List WatchEntry) : (s.setWatch x).profiles = s.profiles := rfl
@[simp] theorem State.setWatch_extents (s : State) (x : List WatchEntry) : (s.setWatch x).extents = s.extents := rfl
@[simp] theorem State.setWatch_ladder (s : State) (x : List WatchEntry) : (s.setWatch x).ladder = s.ladder := rfl
@[simp] theorem State.setWatch_policy (s : State) (x : List WatchEntry) : (s.setWatch x).policy = s.policy := rfl
@[simp] theorem State.setWatch_load (s : State) (x : List WatchEntry) : (s.setWatch x).load = s.load := rfl
@[simp] theorem State.setWatch_lastHost (s : State) (x : List WatchEntry) : (s.setWatch x).lastHost = s.lastHost := rfl
@[simp] theorem State.setWatch_choices (s : State) (x : List WatchEntry) : (s.setWatch x).choices = s.choices := rfl
@[simp] theorem State.setWatch_pending (s : State) (x : List WatchEntry) : (s.setWatch x).pending = s.pending := rfl
@[simp] theorem State.setWatch_mon (s : State) (x : List WatchEntry) : (s.setWatch x).mon = s.mon := rfl
@[simp] theorem State.setWatch_side (s : State) (x : List WatchEntry) : (s.setWatch x).side = s.side := rfl
@[simp] theorem State.setWatch_queues (s : State) (x : List WatchEntry) : (s.setWatch x).queues = s.queues := rfl
@[simp] theorem State.setWatch_scans (s : State) (x : List WatchEntry) : (s.setWatch x).scans = s.scans := rfl
@[simp] theorem State.setWatch_geometry (s : State) (x : List WatchEntry) : (s.setWatch x).geometry = s.geometry := rfl
@[simp] theorem State.setWatch_reserved (s : State) (x : List WatchEntry) : (s.setWatch x).reserved = s.reserved := rfl
@[simp] theorem State.setWatch_groups (s : State) (x : List WatchEntry) : (s.setWatch x).groups = s.groups := rfl
@[simp] theorem State.setWatch_ports (s : State) (x : List WatchEntry) : (s.setWatch x).ports = s.ports := rfl
@[simp] theorem State.setWatch_monOf (s : State) (x : List WatchEntry) (d : Drive) : (s.setWatch x).monOf d = s.monOf d := rfl
@[simp] theorem State.setWatch_sideOf (s : State) (x : List WatchEntry) (d : Drive) : (s.setWatch x).sideOf d = s.sideOf d := rfl
@[simp] theorem State.setWatch_queue (s : State) (x : List WatchEntry) (d : Drive) : (s.setWatch x).queue d = s.queue d := rfl
@[simp] theorem State.setWatch_scanOf (s : State) (x : List WatchEntry) (d : Drive) : (s.setWatch x).scanOf d = s.scanOf d := rfl
@[simp] theorem State.setWatch_geom (s : State) (x : List WatchEntry) (d : Drive) : (s.setWatch x).geom d = s.geom d := rfl
@[simp] theorem State.setWatch_reservedBy (s : State) (x : List WatchEntry) (d : Drive) : (s.setWatch x).reservedBy d = s.reservedBy d := rfl
@[simp] theorem State.setWatch_group (s : State) (x : List WatchEntry) (p : Path) : (s.setWatch x).group p = s.group p := rfl
@[simp] theorem State.setWatch_port (s : State) (x : List WatchEntry) (p : Path) : (s.setWatch x).port p = s.port p := rfl

/-! ### `State.setRelocQ` -/

@[simp] theorem State.setRelocQ_gate (s : State) (x : List RelocEntry) : (s.setRelocQ x).gate = s.gate := rfl
@[simp] theorem State.setRelocQ_lastWrite (s : State) (x : List RelocEntry) : (s.setRelocQ x).lastWrite = s.lastWrite := rfl
@[simp] theorem State.setRelocQ_lastRead (s : State) (x : List RelocEntry) : (s.setRelocQ x).lastRead = s.lastRead := rfl
@[simp] theorem State.setRelocQ_engine (s : State) (x : List RelocEntry) : (s.setRelocQ x).engine = s.engine := rfl
@[simp] theorem State.setRelocQ_walk (s : State) (x : List RelocEntry) : (s.setRelocQ x).walk = s.walk := rfl
@[simp] theorem State.setRelocQ_trackWalk (s : State) (x : List RelocEntry) : (s.setRelocQ x).trackWalk = s.trackWalk := rfl
@[simp] theorem State.setRelocQ_notes (s : State) (x : List RelocEntry) : (s.setRelocQ x).notes = s.notes := rfl
@[simp] theorem State.setRelocQ_watch (s : State) (x : List RelocEntry) : (s.setRelocQ x).watch = s.watch := rfl
@[simp] theorem State.setRelocQ_relocQ (s : State) (x : List RelocEntry) : (s.setRelocQ x).relocQ = x := rfl
@[simp] theorem State.setRelocQ_reloc (s : State) (x : List RelocEntry) : (s.setRelocQ x).reloc = s.reloc := rfl
@[simp] theorem State.setRelocQ_buffer (s : State) (x : List RelocEntry) : (s.setRelocQ x).buffer = s.buffer := rfl
@[simp] theorem State.setRelocQ_map (s : State) (x : List RelocEntry) : (s.setRelocQ x).map = s.map := rfl
@[simp] theorem State.setRelocQ_profiles (s : State) (x : List RelocEntry) : (s.setRelocQ x).profiles = s.profiles := rfl
@[simp] theorem State.setRelocQ_extents (s : State) (x : List RelocEntry) : (s.setRelocQ x).extents = s.extents := rfl
@[simp] theorem State.setRelocQ_ladder (s : State) (x : List RelocEntry) : (s.setRelocQ x).ladder = s.ladder := rfl
@[simp] theorem State.setRelocQ_policy (s : State) (x : List RelocEntry) : (s.setRelocQ x).policy = s.policy := rfl
@[simp] theorem State.setRelocQ_load (s : State) (x : List RelocEntry) : (s.setRelocQ x).load = s.load := rfl
@[simp] theorem State.setRelocQ_lastHost (s : State) (x : List RelocEntry) : (s.setRelocQ x).lastHost = s.lastHost := rfl
@[simp] theorem State.setRelocQ_choices (s : State) (x : List RelocEntry) : (s.setRelocQ x).choices = s.choices := rfl
@[simp] theorem State.setRelocQ_pending (s : State) (x : List RelocEntry) : (s.setRelocQ x).pending = s.pending := rfl
@[simp] theorem State.setRelocQ_mon (s : State) (x : List RelocEntry) : (s.setRelocQ x).mon = s.mon := rfl
@[simp] theorem State.setRelocQ_side (s : State) (x : List RelocEntry) : (s.setRelocQ x).side = s.side := rfl
@[simp] theorem State.setRelocQ_queues (s : State) (x : List RelocEntry) : (s.setRelocQ x).queues = s.queues := rfl
@[simp] theorem State.setRelocQ_scans (s : State) (x : List RelocEntry) : (s.setRelocQ x).scans = s.scans := rfl
@[simp] theorem State.setRelocQ_geometry (s : State) (x : List RelocEntry) : (s.setRelocQ x).geometry = s.geometry := rfl
@[simp] theorem State.setRelocQ_reserved (s : State) (x : List RelocEntry) : (s.setRelocQ x).reserved = s.reserved := rfl
@[simp] theorem State.setRelocQ_groups (s : State) (x : List RelocEntry) : (s.setRelocQ x).groups = s.groups := rfl
@[simp] theorem State.setRelocQ_ports (s : State) (x : List RelocEntry) : (s.setRelocQ x).ports = s.ports := rfl
@[simp] theorem State.setRelocQ_monOf (s : State) (x : List RelocEntry) (d : Drive) : (s.setRelocQ x).monOf d = s.monOf d := rfl
@[simp] theorem State.setRelocQ_sideOf (s : State) (x : List RelocEntry) (d : Drive) : (s.setRelocQ x).sideOf d = s.sideOf d := rfl
@[simp] theorem State.setRelocQ_queue (s : State) (x : List RelocEntry) (d : Drive) : (s.setRelocQ x).queue d = s.queue d := rfl
@[simp] theorem State.setRelocQ_scanOf (s : State) (x : List RelocEntry) (d : Drive) : (s.setRelocQ x).scanOf d = s.scanOf d := rfl
@[simp] theorem State.setRelocQ_geom (s : State) (x : List RelocEntry) (d : Drive) : (s.setRelocQ x).geom d = s.geom d := rfl
@[simp] theorem State.setRelocQ_reservedBy (s : State) (x : List RelocEntry) (d : Drive) : (s.setRelocQ x).reservedBy d = s.reservedBy d := rfl
@[simp] theorem State.setRelocQ_group (s : State) (x : List RelocEntry) (p : Path) : (s.setRelocQ x).group p = s.group p := rfl
@[simp] theorem State.setRelocQ_port (s : State) (x : List RelocEntry) (p : Path) : (s.setRelocQ x).port p = s.port p := rfl

/-! ### `State.setReloc` -/

@[simp] theorem State.setReloc_gate (s : State) (x : Option Reloc) : (s.setReloc x).gate = s.gate := rfl
@[simp] theorem State.setReloc_lastWrite (s : State) (x : Option Reloc) : (s.setReloc x).lastWrite = s.lastWrite := rfl
@[simp] theorem State.setReloc_lastRead (s : State) (x : Option Reloc) : (s.setReloc x).lastRead = s.lastRead := rfl
@[simp] theorem State.setReloc_engine (s : State) (x : Option Reloc) : (s.setReloc x).engine = s.engine := rfl
@[simp] theorem State.setReloc_walk (s : State) (x : Option Reloc) : (s.setReloc x).walk = s.walk := rfl
@[simp] theorem State.setReloc_trackWalk (s : State) (x : Option Reloc) : (s.setReloc x).trackWalk = s.trackWalk := rfl
@[simp] theorem State.setReloc_notes (s : State) (x : Option Reloc) : (s.setReloc x).notes = s.notes := rfl
@[simp] theorem State.setReloc_watch (s : State) (x : Option Reloc) : (s.setReloc x).watch = s.watch := rfl
@[simp] theorem State.setReloc_relocQ (s : State) (x : Option Reloc) : (s.setReloc x).relocQ = s.relocQ := rfl
@[simp] theorem State.setReloc_reloc (s : State) (x : Option Reloc) : (s.setReloc x).reloc = x := rfl
@[simp] theorem State.setReloc_buffer (s : State) (x : Option Reloc) : (s.setReloc x).buffer = s.buffer := rfl
@[simp] theorem State.setReloc_map (s : State) (x : Option Reloc) : (s.setReloc x).map = s.map := rfl
@[simp] theorem State.setReloc_profiles (s : State) (x : Option Reloc) : (s.setReloc x).profiles = s.profiles := rfl
@[simp] theorem State.setReloc_extents (s : State) (x : Option Reloc) : (s.setReloc x).extents = s.extents := rfl
@[simp] theorem State.setReloc_ladder (s : State) (x : Option Reloc) : (s.setReloc x).ladder = s.ladder := rfl
@[simp] theorem State.setReloc_policy (s : State) (x : Option Reloc) : (s.setReloc x).policy = s.policy := rfl
@[simp] theorem State.setReloc_load (s : State) (x : Option Reloc) : (s.setReloc x).load = s.load := rfl
@[simp] theorem State.setReloc_lastHost (s : State) (x : Option Reloc) : (s.setReloc x).lastHost = s.lastHost := rfl
@[simp] theorem State.setReloc_choices (s : State) (x : Option Reloc) : (s.setReloc x).choices = s.choices := rfl
@[simp] theorem State.setReloc_pending (s : State) (x : Option Reloc) : (s.setReloc x).pending = s.pending := rfl
@[simp] theorem State.setReloc_mon (s : State) (x : Option Reloc) : (s.setReloc x).mon = s.mon := rfl
@[simp] theorem State.setReloc_side (s : State) (x : Option Reloc) : (s.setReloc x).side = s.side := rfl
@[simp] theorem State.setReloc_queues (s : State) (x : Option Reloc) : (s.setReloc x).queues = s.queues := rfl
@[simp] theorem State.setReloc_scans (s : State) (x : Option Reloc) : (s.setReloc x).scans = s.scans := rfl
@[simp] theorem State.setReloc_geometry (s : State) (x : Option Reloc) : (s.setReloc x).geometry = s.geometry := rfl
@[simp] theorem State.setReloc_reserved (s : State) (x : Option Reloc) : (s.setReloc x).reserved = s.reserved := rfl
@[simp] theorem State.setReloc_groups (s : State) (x : Option Reloc) : (s.setReloc x).groups = s.groups := rfl
@[simp] theorem State.setReloc_ports (s : State) (x : Option Reloc) : (s.setReloc x).ports = s.ports := rfl
@[simp] theorem State.setReloc_monOf (s : State) (x : Option Reloc) (d : Drive) : (s.setReloc x).monOf d = s.monOf d := rfl
@[simp] theorem State.setReloc_sideOf (s : State) (x : Option Reloc) (d : Drive) : (s.setReloc x).sideOf d = s.sideOf d := rfl
@[simp] theorem State.setReloc_queue (s : State) (x : Option Reloc) (d : Drive) : (s.setReloc x).queue d = s.queue d := rfl
@[simp] theorem State.setReloc_scanOf (s : State) (x : Option Reloc) (d : Drive) : (s.setReloc x).scanOf d = s.scanOf d := rfl
@[simp] theorem State.setReloc_geom (s : State) (x : Option Reloc) (d : Drive) : (s.setReloc x).geom d = s.geom d := rfl
@[simp] theorem State.setReloc_reservedBy (s : State) (x : Option Reloc) (d : Drive) : (s.setReloc x).reservedBy d = s.reservedBy d := rfl
@[simp] theorem State.setReloc_group (s : State) (x : Option Reloc) (p : Path) : (s.setReloc x).group p = s.group p := rfl
@[simp] theorem State.setReloc_port (s : State) (x : Option Reloc) (p : Path) : (s.setReloc x).port p = s.port p := rfl

/-! ### `State.setBuffer` -/

@[simp] theorem State.setBuffer_gate (s : State) (x : Buffer) : (s.setBuffer x).gate = s.gate := rfl
@[simp] theorem State.setBuffer_lastWrite (s : State) (x : Buffer) : (s.setBuffer x).lastWrite = s.lastWrite := rfl
@[simp] theorem State.setBuffer_lastRead (s : State) (x : Buffer) : (s.setBuffer x).lastRead = s.lastRead := rfl
@[simp] theorem State.setBuffer_engine (s : State) (x : Buffer) : (s.setBuffer x).engine = s.engine := rfl
@[simp] theorem State.setBuffer_walk (s : State) (x : Buffer) : (s.setBuffer x).walk = s.walk := rfl
@[simp] theorem State.setBuffer_trackWalk (s : State) (x : Buffer) : (s.setBuffer x).trackWalk = s.trackWalk := rfl
@[simp] theorem State.setBuffer_notes (s : State) (x : Buffer) : (s.setBuffer x).notes = s.notes := rfl
@[simp] theorem State.setBuffer_watch (s : State) (x : Buffer) : (s.setBuffer x).watch = s.watch := rfl
@[simp] theorem State.setBuffer_relocQ (s : State) (x : Buffer) : (s.setBuffer x).relocQ = s.relocQ := rfl
@[simp] theorem State.setBuffer_reloc (s : State) (x : Buffer) : (s.setBuffer x).reloc = s.reloc := rfl
@[simp] theorem State.setBuffer_buffer (s : State) (x : Buffer) : (s.setBuffer x).buffer = x := rfl
@[simp] theorem State.setBuffer_map (s : State) (x : Buffer) : (s.setBuffer x).map = s.map := rfl
@[simp] theorem State.setBuffer_profiles (s : State) (x : Buffer) : (s.setBuffer x).profiles = s.profiles := rfl
@[simp] theorem State.setBuffer_extents (s : State) (x : Buffer) : (s.setBuffer x).extents = s.extents := rfl
@[simp] theorem State.setBuffer_ladder (s : State) (x : Buffer) : (s.setBuffer x).ladder = s.ladder := rfl
@[simp] theorem State.setBuffer_policy (s : State) (x : Buffer) : (s.setBuffer x).policy = s.policy := rfl
@[simp] theorem State.setBuffer_load (s : State) (x : Buffer) : (s.setBuffer x).load = s.load := rfl
@[simp] theorem State.setBuffer_lastHost (s : State) (x : Buffer) : (s.setBuffer x).lastHost = s.lastHost := rfl
@[simp] theorem State.setBuffer_choices (s : State) (x : Buffer) : (s.setBuffer x).choices = s.choices := rfl
@[simp] theorem State.setBuffer_pending (s : State) (x : Buffer) : (s.setBuffer x).pending = s.pending := rfl
@[simp] theorem State.setBuffer_mon (s : State) (x : Buffer) : (s.setBuffer x).mon = s.mon := rfl
@[simp] theorem State.setBuffer_side (s : State) (x : Buffer) : (s.setBuffer x).side = s.side := rfl
@[simp] theorem State.setBuffer_queues (s : State) (x : Buffer) : (s.setBuffer x).queues = s.queues := rfl
@[simp] theorem State.setBuffer_scans (s : State) (x : Buffer) : (s.setBuffer x).scans = s.scans := rfl
@[simp] theorem State.setBuffer_geometry (s : State) (x : Buffer) : (s.setBuffer x).geometry = s.geometry := rfl
@[simp] theorem State.setBuffer_reserved (s : State) (x : Buffer) : (s.setBuffer x).reserved = s.reserved := rfl
@[simp] theorem State.setBuffer_groups (s : State) (x : Buffer) : (s.setBuffer x).groups = s.groups := rfl
@[simp] theorem State.setBuffer_ports (s : State) (x : Buffer) : (s.setBuffer x).ports = s.ports := rfl
@[simp] theorem State.setBuffer_monOf (s : State) (x : Buffer) (d : Drive) : (s.setBuffer x).monOf d = s.monOf d := rfl
@[simp] theorem State.setBuffer_sideOf (s : State) (x : Buffer) (d : Drive) : (s.setBuffer x).sideOf d = s.sideOf d := rfl
@[simp] theorem State.setBuffer_queue (s : State) (x : Buffer) (d : Drive) : (s.setBuffer x).queue d = s.queue d := rfl
@[simp] theorem State.setBuffer_scanOf (s : State) (x : Buffer) (d : Drive) : (s.setBuffer x).scanOf d = s.scanOf d := rfl
@[simp] theorem State.setBuffer_geom (s : State) (x : Buffer) (d : Drive) : (s.setBuffer x).geom d = s.geom d := rfl
@[simp] theorem State.setBuffer_reservedBy (s : State) (x : Buffer) (d : Drive) : (s.setBuffer x).reservedBy d = s.reservedBy d := rfl
@[simp] theorem State.setBuffer_group (s : State) (x : Buffer) (p : Path) : (s.setBuffer x).group p = s.group p := rfl
@[simp] theorem State.setBuffer_port (s : State) (x : Buffer) (p : Path) : (s.setBuffer x).port p = s.port p := rfl

/-! ### `State.setMap` -/

@[simp] theorem State.setMap_gate (s : State) (x : List MapRec) : (s.setMap x).gate = s.gate := rfl
@[simp] theorem State.setMap_lastWrite (s : State) (x : List MapRec) : (s.setMap x).lastWrite = s.lastWrite := rfl
@[simp] theorem State.setMap_lastRead (s : State) (x : List MapRec) : (s.setMap x).lastRead = s.lastRead := rfl
@[simp] theorem State.setMap_engine (s : State) (x : List MapRec) : (s.setMap x).engine = s.engine := rfl
@[simp] theorem State.setMap_walk (s : State) (x : List MapRec) : (s.setMap x).walk = s.walk := rfl
@[simp] theorem State.setMap_trackWalk (s : State) (x : List MapRec) : (s.setMap x).trackWalk = s.trackWalk := rfl
@[simp] theorem State.setMap_notes (s : State) (x : List MapRec) : (s.setMap x).notes = s.notes := rfl
@[simp] theorem State.setMap_watch (s : State) (x : List MapRec) : (s.setMap x).watch = s.watch := rfl
@[simp] theorem State.setMap_relocQ (s : State) (x : List MapRec) : (s.setMap x).relocQ = s.relocQ := rfl
@[simp] theorem State.setMap_reloc (s : State) (x : List MapRec) : (s.setMap x).reloc = s.reloc := rfl
@[simp] theorem State.setMap_buffer (s : State) (x : List MapRec) : (s.setMap x).buffer = s.buffer := rfl
@[simp] theorem State.setMap_map (s : State) (x : List MapRec) : (s.setMap x).map = x := rfl
@[simp] theorem State.setMap_profiles (s : State) (x : List MapRec) : (s.setMap x).profiles = s.profiles := rfl
@[simp] theorem State.setMap_extents (s : State) (x : List MapRec) : (s.setMap x).extents = s.extents := rfl
@[simp] theorem State.setMap_ladder (s : State) (x : List MapRec) : (s.setMap x).ladder = s.ladder := rfl
@[simp] theorem State.setMap_policy (s : State) (x : List MapRec) : (s.setMap x).policy = s.policy := rfl
@[simp] theorem State.setMap_load (s : State) (x : List MapRec) : (s.setMap x).load = s.load := rfl
@[simp] theorem State.setMap_lastHost (s : State) (x : List MapRec) : (s.setMap x).lastHost = s.lastHost := rfl
@[simp] theorem State.setMap_choices (s : State) (x : List MapRec) : (s.setMap x).choices = s.choices := rfl
@[simp] theorem State.setMap_pending (s : State) (x : List MapRec) : (s.setMap x).pending = s.pending := rfl
@[simp] theorem State.setMap_mon (s : State) (x : List MapRec) : (s.setMap x).mon = s.mon := rfl
@[simp] theorem State.setMap_side (s : State) (x : List MapRec) : (s.setMap x).side = s.side := rfl
@[simp] theorem State.setMap_queues (s : State) (x : List MapRec) : (s.setMap x).queues = s.queues := rfl
@[simp] theorem State.setMap_scans (s : State) (x : List MapRec) : (s.setMap x).scans = s.scans := rfl
@[simp] theorem State.setMap_geometry (s : State) (x : List MapRec) : (s.setMap x).geometry = s.geometry := rfl
@[simp] theorem State.setMap_reserved (s : State) (x : List MapRec) : (s.setMap x).reserved = s.reserved := rfl
@[simp] theorem State.setMap_groups (s : State) (x : List MapRec) : (s.setMap x).groups = s.groups := rfl
@[simp] theorem State.setMap_ports (s : State) (x : List MapRec) : (s.setMap x).ports = s.ports := rfl
@[simp] theorem State.setMap_monOf (s : State) (x : List MapRec) (d : Drive) : (s.setMap x).monOf d = s.monOf d := rfl
@[simp] theorem State.setMap_sideOf (s : State) (x : List MapRec) (d : Drive) : (s.setMap x).sideOf d = s.sideOf d := rfl
@[simp] theorem State.setMap_queue (s : State) (x : List MapRec) (d : Drive) : (s.setMap x).queue d = s.queue d := rfl
@[simp] theorem State.setMap_scanOf (s : State) (x : List MapRec) (d : Drive) : (s.setMap x).scanOf d = s.scanOf d := rfl
@[simp] theorem State.setMap_geom (s : State) (x : List MapRec) (d : Drive) : (s.setMap x).geom d = s.geom d := rfl
@[simp] theorem State.setMap_reservedBy (s : State) (x : List MapRec) (d : Drive) : (s.setMap x).reservedBy d = s.reservedBy d := rfl
@[simp] theorem State.setMap_group (s : State) (x : List MapRec) (p : Path) : (s.setMap x).group p = s.group p := rfl
@[simp] theorem State.setMap_port (s : State) (x : List MapRec) (p : Path) : (s.setMap x).port p = s.port p := rfl

/-! ### `State.setProfiles` -/

@[simp] theorem State.setProfiles_gate (s : State) (x : Four (List SeekPoint)) : (s.setProfiles x).gate = s.gate := rfl
@[simp] theorem State.setProfiles_lastWrite (s : State) (x : Four (List SeekPoint)) : (s.setProfiles x).lastWrite = s.lastWrite := rfl
@[simp] theorem State.setProfiles_lastRead (s : State) (x : Four (List SeekPoint)) : (s.setProfiles x).lastRead = s.lastRead := rfl
@[simp] theorem State.setProfiles_engine (s : State) (x : Four (List SeekPoint)) : (s.setProfiles x).engine = s.engine := rfl
@[simp] theorem State.setProfiles_walk (s : State) (x : Four (List SeekPoint)) : (s.setProfiles x).walk = s.walk := rfl
@[simp] theorem State.setProfiles_trackWalk (s : State) (x : Four (List SeekPoint)) : (s.setProfiles x).trackWalk = s.trackWalk := rfl
@[simp] theorem State.setProfiles_notes (s : State) (x : Four (List SeekPoint)) : (s.setProfiles x).notes = s.notes := rfl
@[simp] theorem State.setProfiles_watch (s : State) (x : Four (List SeekPoint)) : (s.setProfiles x).watch = s.watch := rfl
@[simp] theorem State.setProfiles_relocQ (s : State) (x : Four (List SeekPoint)) : (s.setProfiles x).relocQ = s.relocQ := rfl
@[simp] theorem State.setProfiles_reloc (s : State) (x : Four (List SeekPoint)) : (s.setProfiles x).reloc = s.reloc := rfl
@[simp] theorem State.setProfiles_buffer (s : State) (x : Four (List SeekPoint)) : (s.setProfiles x).buffer = s.buffer := rfl
@[simp] theorem State.setProfiles_map (s : State) (x : Four (List SeekPoint)) : (s.setProfiles x).map = s.map := rfl
@[simp] theorem State.setProfiles_profiles (s : State) (x : Four (List SeekPoint)) : (s.setProfiles x).profiles = x := rfl
@[simp] theorem State.setProfiles_extents (s : State) (x : Four (List SeekPoint)) : (s.setProfiles x).extents = s.extents := rfl
@[simp] theorem State.setProfiles_ladder (s : State) (x : Four (List SeekPoint)) : (s.setProfiles x).ladder = s.ladder := rfl
@[simp] theorem State.setProfiles_policy (s : State) (x : Four (List SeekPoint)) : (s.setProfiles x).policy = s.policy := rfl
@[simp] theorem State.setProfiles_load (s : State) (x : Four (List SeekPoint)) : (s.setProfiles x).load = s.load := rfl
@[simp] theorem State.setProfiles_lastHost (s : State) (x : Four (List SeekPoint)) : (s.setProfiles x).lastHost = s.lastHost := rfl
@[simp] theorem State.setProfiles_choices (s : State) (x : Four (List SeekPoint)) : (s.setProfiles x).choices = s.choices := rfl
@[simp] theorem State.setProfiles_pending (s : State) (x : Four (List SeekPoint)) : (s.setProfiles x).pending = s.pending := rfl
@[simp] theorem State.setProfiles_mon (s : State) (x : Four (List SeekPoint)) : (s.setProfiles x).mon = s.mon := rfl
@[simp] theorem State.setProfiles_side (s : State) (x : Four (List SeekPoint)) : (s.setProfiles x).side = s.side := rfl
@[simp] theorem State.setProfiles_queues (s : State) (x : Four (List SeekPoint)) : (s.setProfiles x).queues = s.queues := rfl
@[simp] theorem State.setProfiles_scans (s : State) (x : Four (List SeekPoint)) : (s.setProfiles x).scans = s.scans := rfl
@[simp] theorem State.setProfiles_geometry (s : State) (x : Four (List SeekPoint)) : (s.setProfiles x).geometry = s.geometry := rfl
@[simp] theorem State.setProfiles_reserved (s : State) (x : Four (List SeekPoint)) : (s.setProfiles x).reserved = s.reserved := rfl
@[simp] theorem State.setProfiles_groups (s : State) (x : Four (List SeekPoint)) : (s.setProfiles x).groups = s.groups := rfl
@[simp] theorem State.setProfiles_ports (s : State) (x : Four (List SeekPoint)) : (s.setProfiles x).ports = s.ports := rfl
@[simp] theorem State.setProfiles_monOf (s : State) (x : Four (List SeekPoint)) (d : Drive) : (s.setProfiles x).monOf d = s.monOf d := rfl
@[simp] theorem State.setProfiles_sideOf (s : State) (x : Four (List SeekPoint)) (d : Drive) : (s.setProfiles x).sideOf d = s.sideOf d := rfl
@[simp] theorem State.setProfiles_queue (s : State) (x : Four (List SeekPoint)) (d : Drive) : (s.setProfiles x).queue d = s.queue d := rfl
@[simp] theorem State.setProfiles_scanOf (s : State) (x : Four (List SeekPoint)) (d : Drive) : (s.setProfiles x).scanOf d = s.scanOf d := rfl
@[simp] theorem State.setProfiles_geom (s : State) (x : Four (List SeekPoint)) (d : Drive) : (s.setProfiles x).geom d = s.geom d := rfl
@[simp] theorem State.setProfiles_reservedBy (s : State) (x : Four (List SeekPoint)) (d : Drive) : (s.setProfiles x).reservedBy d = s.reservedBy d := rfl
@[simp] theorem State.setProfiles_group (s : State) (x : Four (List SeekPoint)) (p : Path) : (s.setProfiles x).group p = s.group p := rfl
@[simp] theorem State.setProfiles_port (s : State) (x : Four (List SeekPoint)) (p : Path) : (s.setProfiles x).port p = s.port p := rfl

/-! ### `State.setExtents` -/

@[simp] theorem State.setExtents_gate (s : State) (x : List Extent) : (s.setExtents x).gate = s.gate := rfl
@[simp] theorem State.setExtents_lastWrite (s : State) (x : List Extent) : (s.setExtents x).lastWrite = s.lastWrite := rfl
@[simp] theorem State.setExtents_lastRead (s : State) (x : List Extent) : (s.setExtents x).lastRead = s.lastRead := rfl
@[simp] theorem State.setExtents_engine (s : State) (x : List Extent) : (s.setExtents x).engine = s.engine := rfl
@[simp] theorem State.setExtents_walk (s : State) (x : List Extent) : (s.setExtents x).walk = s.walk := rfl
@[simp] theorem State.setExtents_trackWalk (s : State) (x : List Extent) : (s.setExtents x).trackWalk = s.trackWalk := rfl
@[simp] theorem State.setExtents_notes (s : State) (x : List Extent) : (s.setExtents x).notes = s.notes := rfl
@[simp] theorem State.setExtents_watch (s : State) (x : List Extent) : (s.setExtents x).watch = s.watch := rfl
@[simp] theorem State.setExtents_relocQ (s : State) (x : List Extent) : (s.setExtents x).relocQ = s.relocQ := rfl
@[simp] theorem State.setExtents_reloc (s : State) (x : List Extent) : (s.setExtents x).reloc = s.reloc := rfl
@[simp] theorem State.setExtents_buffer (s : State) (x : List Extent) : (s.setExtents x).buffer = s.buffer := rfl
@[simp] theorem State.setExtents_map (s : State) (x : List Extent) : (s.setExtents x).map = s.map := rfl
@[simp] theorem State.setExtents_profiles (s : State) (x : List Extent) : (s.setExtents x).profiles = s.profiles := rfl
@[simp] theorem State.setExtents_extents (s : State) (x : List Extent) : (s.setExtents x).extents = x := rfl
@[simp] theorem State.setExtents_ladder (s : State) (x : List Extent) : (s.setExtents x).ladder = s.ladder := rfl
@[simp] theorem State.setExtents_policy (s : State) (x : List Extent) : (s.setExtents x).policy = s.policy := rfl
@[simp] theorem State.setExtents_load (s : State) (x : List Extent) : (s.setExtents x).load = s.load := rfl
@[simp] theorem State.setExtents_lastHost (s : State) (x : List Extent) : (s.setExtents x).lastHost = s.lastHost := rfl
@[simp] theorem State.setExtents_choices (s : State) (x : List Extent) : (s.setExtents x).choices = s.choices := rfl
@[simp] theorem State.setExtents_pending (s : State) (x : List Extent) : (s.setExtents x).pending = s.pending := rfl
@[simp] theorem State.setExtents_mon (s : State) (x : List Extent) : (s.setExtents x).mon = s.mon := rfl
@[simp] theorem State.setExtents_side (s : State) (x : List Extent) : (s.setExtents x).side = s.side := rfl
@[simp] theorem State.setExtents_queues (s : State) (x : List Extent) : (s.setExtents x).queues = s.queues := rfl
@[simp] theorem State.setExtents_scans (s : State) (x : List Extent) : (s.setExtents x).scans = s.scans := rfl
@[simp] theorem State.setExtents_geometry (s : State) (x : List Extent) : (s.setExtents x).geometry = s.geometry := rfl
@[simp] theorem State.setExtents_reserved (s : State) (x : List Extent) : (s.setExtents x).reserved = s.reserved := rfl
@[simp] theorem State.setExtents_groups (s : State) (x : List Extent) : (s.setExtents x).groups = s.groups := rfl
@[simp] theorem State.setExtents_ports (s : State) (x : List Extent) : (s.setExtents x).ports = s.ports := rfl
@[simp] theorem State.setExtents_monOf (s : State) (x : List Extent) (d : Drive) : (s.setExtents x).monOf d = s.monOf d := rfl
@[simp] theorem State.setExtents_sideOf (s : State) (x : List Extent) (d : Drive) : (s.setExtents x).sideOf d = s.sideOf d := rfl
@[simp] theorem State.setExtents_queue (s : State) (x : List Extent) (d : Drive) : (s.setExtents x).queue d = s.queue d := rfl
@[simp] theorem State.setExtents_scanOf (s : State) (x : List Extent) (d : Drive) : (s.setExtents x).scanOf d = s.scanOf d := rfl
@[simp] theorem State.setExtents_geom (s : State) (x : List Extent) (d : Drive) : (s.setExtents x).geom d = s.geom d := rfl
@[simp] theorem State.setExtents_reservedBy (s : State) (x : List Extent) (d : Drive) : (s.setExtents x).reservedBy d = s.reservedBy d := rfl
@[simp] theorem State.setExtents_group (s : State) (x : List Extent) (p : Path) : (s.setExtents x).group p = s.group p := rfl
@[simp] theorem State.setExtents_port (s : State) (x : List Extent) (p : Path) : (s.setExtents x).port p = s.port p := rfl

/-! ### `State.setLadder` -/

@[simp] theorem State.setLadder_gate (s : State) (x : List LadderStep) : (s.setLadder x).gate = s.gate := rfl
@[simp] theorem State.setLadder_lastWrite (s : State) (x : List LadderStep) : (s.setLadder x).lastWrite = s.lastWrite := rfl
@[simp] theorem State.setLadder_lastRead (s : State) (x : List LadderStep) : (s.setLadder x).lastRead = s.lastRead := rfl
@[simp] theorem State.setLadder_engine (s : State) (x : List LadderStep) : (s.setLadder x).engine = s.engine := rfl
@[simp] theorem State.setLadder_walk (s : State) (x : List LadderStep) : (s.setLadder x).walk = s.walk := rfl
@[simp] theorem State.setLadder_trackWalk (s : State) (x : List LadderStep) : (s.setLadder x).trackWalk = s.trackWalk := rfl
@[simp] theorem State.setLadder_notes (s : State) (x : List LadderStep) : (s.setLadder x).notes = s.notes := rfl
@[simp] theorem State.setLadder_watch (s : State) (x : List LadderStep) : (s.setLadder x).watch = s.watch := rfl
@[simp] theorem State.setLadder_relocQ (s : State) (x : List LadderStep) : (s.setLadder x).relocQ = s.relocQ := rfl
@[simp] theorem State.setLadder_reloc (s : State) (x : List LadderStep) : (s.setLadder x).reloc = s.reloc := rfl
@[simp] theorem State.setLadder_buffer (s : State) (x : List LadderStep) : (s.setLadder x).buffer = s.buffer := rfl
@[simp] theorem State.setLadder_map (s : State) (x : List LadderStep) : (s.setLadder x).map = s.map := rfl
@[simp] theorem State.setLadder_profiles (s : State) (x : List LadderStep) : (s.setLadder x).profiles = s.profiles := rfl
@[simp] theorem State.setLadder_extents (s : State) (x : List LadderStep) : (s.setLadder x).extents = s.extents := rfl
@[simp] theorem State.setLadder_ladder (s : State) (x : List LadderStep) : (s.setLadder x).ladder = x := rfl
@[simp] theorem State.setLadder_policy (s : State) (x : List LadderStep) : (s.setLadder x).policy = s.policy := rfl
@[simp] theorem State.setLadder_load (s : State) (x : List LadderStep) : (s.setLadder x).load = s.load := rfl
@[simp] theorem State.setLadder_lastHost (s : State) (x : List LadderStep) : (s.setLadder x).lastHost = s.lastHost := rfl
@[simp] theorem State.setLadder_choices (s : State) (x : List LadderStep) : (s.setLadder x).choices = s.choices := rfl
@[simp] theorem State.setLadder_pending (s : State) (x : List LadderStep) : (s.setLadder x).pending = s.pending := rfl
@[simp] theorem State.setLadder_mon (s : State) (x : List LadderStep) : (s.setLadder x).mon = s.mon := rfl
@[simp] theorem State.setLadder_side (s : State) (x : List LadderStep) : (s.setLadder x).side = s.side := rfl
@[simp] theorem State.setLadder_queues (s : State) (x : List LadderStep) : (s.setLadder x).queues = s.queues := rfl
@[simp] theorem State.setLadder_scans (s : State) (x : List LadderStep) : (s.setLadder x).scans = s.scans := rfl
@[simp] theorem State.setLadder_geometry (s : State) (x : List LadderStep) : (s.setLadder x).geometry = s.geometry := rfl
@[simp] theorem State.setLadder_reserved (s : State) (x : List LadderStep) : (s.setLadder x).reserved = s.reserved := rfl
@[simp] theorem State.setLadder_groups (s : State) (x : List LadderStep) : (s.setLadder x).groups = s.groups := rfl
@[simp] theorem State.setLadder_ports (s : State) (x : List LadderStep) : (s.setLadder x).ports = s.ports := rfl
@[simp] theorem State.setLadder_monOf (s : State) (x : List LadderStep) (d : Drive) : (s.setLadder x).monOf d = s.monOf d := rfl
@[simp] theorem State.setLadder_sideOf (s : State) (x : List LadderStep) (d : Drive) : (s.setLadder x).sideOf d = s.sideOf d := rfl
@[simp] theorem State.setLadder_queue (s : State) (x : List LadderStep) (d : Drive) : (s.setLadder x).queue d = s.queue d := rfl
@[simp] theorem State.setLadder_scanOf (s : State) (x : List LadderStep) (d : Drive) : (s.setLadder x).scanOf d = s.scanOf d := rfl
@[simp] theorem State.setLadder_geom (s : State) (x : List LadderStep) (d : Drive) : (s.setLadder x).geom d = s.geom d := rfl
@[simp] theorem State.setLadder_reservedBy (s : State) (x : List LadderStep) (d : Drive) : (s.setLadder x).reservedBy d = s.reservedBy d := rfl
@[simp] theorem State.setLadder_group (s : State) (x : List LadderStep) (p : Path) : (s.setLadder x).group p = s.group p := rfl
@[simp] theorem State.setLadder_port (s : State) (x : List LadderStep) (p : Path) : (s.setLadder x).port p = s.port p := rfl

/-! ### `State.setPolicy` -/

@[simp] theorem State.setPolicy_gate (s : State) (x : Policy) : (s.setPolicy x).gate = s.gate := rfl
@[simp] theorem State.setPolicy_lastWrite (s : State) (x : Policy) : (s.setPolicy x).lastWrite = s.lastWrite := rfl
@[simp] theorem State.setPolicy_lastRead (s : State) (x : Policy) : (s.setPolicy x).lastRead = s.lastRead := rfl
@[simp] theorem State.setPolicy_engine (s : State) (x : Policy) : (s.setPolicy x).engine = s.engine := rfl
@[simp] theorem State.setPolicy_walk (s : State) (x : Policy) : (s.setPolicy x).walk = s.walk := rfl
@[simp] theorem State.setPolicy_trackWalk (s : State) (x : Policy) : (s.setPolicy x).trackWalk = s.trackWalk := rfl
@[simp] theorem State.setPolicy_notes (s : State) (x : Policy) : (s.setPolicy x).notes = s.notes := rfl
@[simp] theorem State.setPolicy_watch (s : State) (x : Policy) : (s.setPolicy x).watch = s.watch := rfl
@[simp] theorem State.setPolicy_relocQ (s : State) (x : Policy) : (s.setPolicy x).relocQ = s.relocQ := rfl
@[simp] theorem State.setPolicy_reloc (s : State) (x : Policy) : (s.setPolicy x).reloc = s.reloc := rfl
@[simp] theorem State.setPolicy_buffer (s : State) (x : Policy) : (s.setPolicy x).buffer = s.buffer := rfl
@[simp] theorem State.setPolicy_map (s : State) (x : Policy) : (s.setPolicy x).map = s.map := rfl
@[simp] theorem State.setPolicy_profiles (s : State) (x : Policy) : (s.setPolicy x).profiles = s.profiles := rfl
@[simp] theorem State.setPolicy_extents (s : State) (x : Policy) : (s.setPolicy x).extents = s.extents := rfl
@[simp] theorem State.setPolicy_ladder (s : State) (x : Policy) : (s.setPolicy x).ladder = s.ladder := rfl
@[simp] theorem State.setPolicy_policy (s : State) (x : Policy) : (s.setPolicy x).policy = x := rfl
@[simp] theorem State.setPolicy_load (s : State) (x : Policy) : (s.setPolicy x).load = s.load := rfl
@[simp] theorem State.setPolicy_lastHost (s : State) (x : Policy) : (s.setPolicy x).lastHost = s.lastHost := rfl
@[simp] theorem State.setPolicy_choices (s : State) (x : Policy) : (s.setPolicy x).choices = s.choices := rfl
@[simp] theorem State.setPolicy_pending (s : State) (x : Policy) : (s.setPolicy x).pending = s.pending := rfl
@[simp] theorem State.setPolicy_mon (s : State) (x : Policy) : (s.setPolicy x).mon = s.mon := rfl
@[simp] theorem State.setPolicy_side (s : State) (x : Policy) : (s.setPolicy x).side = s.side := rfl
@[simp] theorem State.setPolicy_queues (s : State) (x : Policy) : (s.setPolicy x).queues = s.queues := rfl
@[simp] theorem State.setPolicy_scans (s : State) (x : Policy) : (s.setPolicy x).scans = s.scans := rfl
@[simp] theorem State.setPolicy_geometry (s : State) (x : Policy) : (s.setPolicy x).geometry = s.geometry := rfl
@[simp] theorem State.setPolicy_reserved (s : State) (x : Policy) : (s.setPolicy x).reserved = s.reserved := rfl
@[simp] theorem State.setPolicy_groups (s : State) (x : Policy) : (s.setPolicy x).groups = s.groups := rfl
@[simp] theorem State.setPolicy_ports (s : State) (x : Policy) : (s.setPolicy x).ports = s.ports := rfl
@[simp] theorem State.setPolicy_monOf (s : State) (x : Policy) (d : Drive) : (s.setPolicy x).monOf d = s.monOf d := rfl
@[simp] theorem State.setPolicy_sideOf (s : State) (x : Policy) (d : Drive) : (s.setPolicy x).sideOf d = s.sideOf d := rfl
@[simp] theorem State.setPolicy_queue (s : State) (x : Policy) (d : Drive) : (s.setPolicy x).queue d = s.queue d := rfl
@[simp] theorem State.setPolicy_scanOf (s : State) (x : Policy) (d : Drive) : (s.setPolicy x).scanOf d = s.scanOf d := rfl
@[simp] theorem State.setPolicy_geom (s : State) (x : Policy) (d : Drive) : (s.setPolicy x).geom d = s.geom d := rfl
@[simp] theorem State.setPolicy_reservedBy (s : State) (x : Policy) (d : Drive) : (s.setPolicy x).reservedBy d = s.reservedBy d := rfl
@[simp] theorem State.setPolicy_group (s : State) (x : Policy) (p : Path) : (s.setPolicy x).group p = s.group p := rfl
@[simp] theorem State.setPolicy_port (s : State) (x : Policy) (p : Path) : (s.setPolicy x).port p = s.port p := rfl

/-! ### `State.setLoad` -/

@[simp] theorem State.setLoad_gate (s : State) (x : Option LoadJob) : (s.setLoad x).gate = s.gate := rfl
@[simp] theorem State.setLoad_lastWrite (s : State) (x : Option LoadJob) : (s.setLoad x).lastWrite = s.lastWrite := rfl
@[simp] theorem State.setLoad_lastRead (s : State) (x : Option LoadJob) : (s.setLoad x).lastRead = s.lastRead := rfl
@[simp] theorem State.setLoad_engine (s : State) (x : Option LoadJob) : (s.setLoad x).engine = s.engine := rfl
@[simp] theorem State.setLoad_walk (s : State) (x : Option LoadJob) : (s.setLoad x).walk = s.walk := rfl
@[simp] theorem State.setLoad_trackWalk (s : State) (x : Option LoadJob) : (s.setLoad x).trackWalk = s.trackWalk := rfl
@[simp] theorem State.setLoad_notes (s : State) (x : Option LoadJob) : (s.setLoad x).notes = s.notes := rfl
@[simp] theorem State.setLoad_watch (s : State) (x : Option LoadJob) : (s.setLoad x).watch = s.watch := rfl
@[simp] theorem State.setLoad_relocQ (s : State) (x : Option LoadJob) : (s.setLoad x).relocQ = s.relocQ := rfl
@[simp] theorem State.setLoad_reloc (s : State) (x : Option LoadJob) : (s.setLoad x).reloc = s.reloc := rfl
@[simp] theorem State.setLoad_buffer (s : State) (x : Option LoadJob) : (s.setLoad x).buffer = s.buffer := rfl
@[simp] theorem State.setLoad_map (s : State) (x : Option LoadJob) : (s.setLoad x).map = s.map := rfl
@[simp] theorem State.setLoad_profiles (s : State) (x : Option LoadJob) : (s.setLoad x).profiles = s.profiles := rfl
@[simp] theorem State.setLoad_extents (s : State) (x : Option LoadJob) : (s.setLoad x).extents = s.extents := rfl
@[simp] theorem State.setLoad_ladder (s : State) (x : Option LoadJob) : (s.setLoad x).ladder = s.ladder := rfl
@[simp] theorem State.setLoad_policy (s : State) (x : Option LoadJob) : (s.setLoad x).policy = s.policy := rfl
@[simp] theorem State.setLoad_load (s : State) (x : Option LoadJob) : (s.setLoad x).load = x := rfl
@[simp] theorem State.setLoad_lastHost (s : State) (x : Option LoadJob) : (s.setLoad x).lastHost = s.lastHost := rfl
@[simp] theorem State.setLoad_choices (s : State) (x : Option LoadJob) : (s.setLoad x).choices = s.choices := rfl
@[simp] theorem State.setLoad_pending (s : State) (x : Option LoadJob) : (s.setLoad x).pending = s.pending := rfl
@[simp] theorem State.setLoad_mon (s : State) (x : Option LoadJob) : (s.setLoad x).mon = s.mon := rfl
@[simp] theorem State.setLoad_side (s : State) (x : Option LoadJob) : (s.setLoad x).side = s.side := rfl
@[simp] theorem State.setLoad_queues (s : State) (x : Option LoadJob) : (s.setLoad x).queues = s.queues := rfl
@[simp] theorem State.setLoad_scans (s : State) (x : Option LoadJob) : (s.setLoad x).scans = s.scans := rfl
@[simp] theorem State.setLoad_geometry (s : State) (x : Option LoadJob) : (s.setLoad x).geometry = s.geometry := rfl
@[simp] theorem State.setLoad_reserved (s : State) (x : Option LoadJob) : (s.setLoad x).reserved = s.reserved := rfl
@[simp] theorem State.setLoad_groups (s : State) (x : Option LoadJob) : (s.setLoad x).groups = s.groups := rfl
@[simp] theorem State.setLoad_ports (s : State) (x : Option LoadJob) : (s.setLoad x).ports = s.ports := rfl
@[simp] theorem State.setLoad_monOf (s : State) (x : Option LoadJob) (d : Drive) : (s.setLoad x).monOf d = s.monOf d := rfl
@[simp] theorem State.setLoad_sideOf (s : State) (x : Option LoadJob) (d : Drive) : (s.setLoad x).sideOf d = s.sideOf d := rfl
@[simp] theorem State.setLoad_queue (s : State) (x : Option LoadJob) (d : Drive) : (s.setLoad x).queue d = s.queue d := rfl
@[simp] theorem State.setLoad_scanOf (s : State) (x : Option LoadJob) (d : Drive) : (s.setLoad x).scanOf d = s.scanOf d := rfl
@[simp] theorem State.setLoad_geom (s : State) (x : Option LoadJob) (d : Drive) : (s.setLoad x).geom d = s.geom d := rfl
@[simp] theorem State.setLoad_reservedBy (s : State) (x : Option LoadJob) (d : Drive) : (s.setLoad x).reservedBy d = s.reservedBy d := rfl
@[simp] theorem State.setLoad_group (s : State) (x : Option LoadJob) (p : Path) : (s.setLoad x).group p = s.group p := rfl
@[simp] theorem State.setLoad_port (s : State) (x : Option LoadJob) (p : Path) : (s.setLoad x).port p = s.port p := rfl

/-! ### `State.setLastHost` -/

@[simp] theorem State.setLastHost_gate (s : State) (x : Path) : (s.setLastHost x).gate = s.gate := rfl
@[simp] theorem State.setLastHost_lastWrite (s : State) (x : Path) : (s.setLastHost x).lastWrite = s.lastWrite := rfl
@[simp] theorem State.setLastHost_lastRead (s : State) (x : Path) : (s.setLastHost x).lastRead = s.lastRead := rfl
@[simp] theorem State.setLastHost_engine (s : State) (x : Path) : (s.setLastHost x).engine = s.engine := rfl
@[simp] theorem State.setLastHost_walk (s : State) (x : Path) : (s.setLastHost x).walk = s.walk := rfl
@[simp] theorem State.setLastHost_trackWalk (s : State) (x : Path) : (s.setLastHost x).trackWalk = s.trackWalk := rfl
@[simp] theorem State.setLastHost_notes (s : State) (x : Path) : (s.setLastHost x).notes = s.notes := rfl
@[simp] theorem State.setLastHost_watch (s : State) (x : Path) : (s.setLastHost x).watch = s.watch := rfl
@[simp] theorem State.setLastHost_relocQ (s : State) (x : Path) : (s.setLastHost x).relocQ = s.relocQ := rfl
@[simp] theorem State.setLastHost_reloc (s : State) (x : Path) : (s.setLastHost x).reloc = s.reloc := rfl
@[simp] theorem State.setLastHost_buffer (s : State) (x : Path) : (s.setLastHost x).buffer = s.buffer := rfl
@[simp] theorem State.setLastHost_map (s : State) (x : Path) : (s.setLastHost x).map = s.map := rfl
@[simp] theorem State.setLastHost_profiles (s : State) (x : Path) : (s.setLastHost x).profiles = s.profiles := rfl
@[simp] theorem State.setLastHost_extents (s : State) (x : Path) : (s.setLastHost x).extents = s.extents := rfl
@[simp] theorem State.setLastHost_ladder (s : State) (x : Path) : (s.setLastHost x).ladder = s.ladder := rfl
@[simp] theorem State.setLastHost_policy (s : State) (x : Path) : (s.setLastHost x).policy = s.policy := rfl
@[simp] theorem State.setLastHost_load (s : State) (x : Path) : (s.setLastHost x).load = s.load := rfl
@[simp] theorem State.setLastHost_lastHost (s : State) (x : Path) : (s.setLastHost x).lastHost = x := rfl
@[simp] theorem State.setLastHost_choices (s : State) (x : Path) : (s.setLastHost x).choices = s.choices := rfl
@[simp] theorem State.setLastHost_pending (s : State) (x : Path) : (s.setLastHost x).pending = s.pending := rfl
@[simp] theorem State.setLastHost_mon (s : State) (x : Path) : (s.setLastHost x).mon = s.mon := rfl
@[simp] theorem State.setLastHost_side (s : State) (x : Path) : (s.setLastHost x).side = s.side := rfl
@[simp] theorem State.setLastHost_queues (s : State) (x : Path) : (s.setLastHost x).queues = s.queues := rfl
@[simp] theorem State.setLastHost_scans (s : State) (x : Path) : (s.setLastHost x).scans = s.scans := rfl
@[simp] theorem State.setLastHost_geometry (s : State) (x : Path) : (s.setLastHost x).geometry = s.geometry := rfl
@[simp] theorem State.setLastHost_reserved (s : State) (x : Path) : (s.setLastHost x).reserved = s.reserved := rfl
@[simp] theorem State.setLastHost_groups (s : State) (x : Path) : (s.setLastHost x).groups = s.groups := rfl
@[simp] theorem State.setLastHost_ports (s : State) (x : Path) : (s.setLastHost x).ports = s.ports := rfl
@[simp] theorem State.setLastHost_monOf (s : State) (x : Path) (d : Drive) : (s.setLastHost x).monOf d = s.monOf d := rfl
@[simp] theorem State.setLastHost_sideOf (s : State) (x : Path) (d : Drive) : (s.setLastHost x).sideOf d = s.sideOf d := rfl
@[simp] theorem State.setLastHost_queue (s : State) (x : Path) (d : Drive) : (s.setLastHost x).queue d = s.queue d := rfl
@[simp] theorem State.setLastHost_scanOf (s : State) (x : Path) (d : Drive) : (s.setLastHost x).scanOf d = s.scanOf d := rfl
@[simp] theorem State.setLastHost_geom (s : State) (x : Path) (d : Drive) : (s.setLastHost x).geom d = s.geom d := rfl
@[simp] theorem State.setLastHost_reservedBy (s : State) (x : Path) (d : Drive) : (s.setLastHost x).reservedBy d = s.reservedBy d := rfl
@[simp] theorem State.setLastHost_group (s : State) (x : Path) (p : Path) : (s.setLastHost x).group p = s.group p := rfl
@[simp] theorem State.setLastHost_port (s : State) (x : Path) (p : Path) : (s.setLastHost x).port p = s.port p := rfl

/-! ### `State.setChoices` -/

@[simp] theorem State.setChoices_gate (s : State) (x : Nat) : (s.setChoices x).gate = s.gate := rfl
@[simp] theorem State.setChoices_lastWrite (s : State) (x : Nat) : (s.setChoices x).lastWrite = s.lastWrite := rfl
@[simp] theorem State.setChoices_lastRead (s : State) (x : Nat) : (s.setChoices x).lastRead = s.lastRead := rfl
@[simp] theorem State.setChoices_engine (s : State) (x : Nat) : (s.setChoices x).engine = s.engine := rfl
@[simp] theorem State.setChoices_walk (s : State) (x : Nat) : (s.setChoices x).walk = s.walk := rfl
@[simp] theorem State.setChoices_trackWalk (s : State) (x : Nat) : (s.setChoices x).trackWalk = s.trackWalk := rfl
@[simp] theorem State.setChoices_notes (s : State) (x : Nat) : (s.setChoices x).notes = s.notes := rfl
@[simp] theorem State.setChoices_watch (s : State) (x : Nat) : (s.setChoices x).watch = s.watch := rfl
@[simp] theorem State.setChoices_relocQ (s : State) (x : Nat) : (s.setChoices x).relocQ = s.relocQ := rfl
@[simp] theorem State.setChoices_reloc (s : State) (x : Nat) : (s.setChoices x).reloc = s.reloc := rfl
@[simp] theorem State.setChoices_buffer (s : State) (x : Nat) : (s.setChoices x).buffer = s.buffer := rfl
@[simp] theorem State.setChoices_map (s : State) (x : Nat) : (s.setChoices x).map = s.map := rfl
@[simp] theorem State.setChoices_profiles (s : State) (x : Nat) : (s.setChoices x).profiles = s.profiles := rfl
@[simp] theorem State.setChoices_extents (s : State) (x : Nat) : (s.setChoices x).extents = s.extents := rfl
@[simp] theorem State.setChoices_ladder (s : State) (x : Nat) : (s.setChoices x).ladder = s.ladder := rfl
@[simp] theorem State.setChoices_policy (s : State) (x : Nat) : (s.setChoices x).policy = s.policy := rfl
@[simp] theorem State.setChoices_load (s : State) (x : Nat) : (s.setChoices x).load = s.load := rfl
@[simp] theorem State.setChoices_lastHost (s : State) (x : Nat) : (s.setChoices x).lastHost = s.lastHost := rfl
@[simp] theorem State.setChoices_choices (s : State) (x : Nat) : (s.setChoices x).choices = x := rfl
@[simp] theorem State.setChoices_pending (s : State) (x : Nat) : (s.setChoices x).pending = s.pending := rfl
@[simp] theorem State.setChoices_mon (s : State) (x : Nat) : (s.setChoices x).mon = s.mon := rfl
@[simp] theorem State.setChoices_side (s : State) (x : Nat) : (s.setChoices x).side = s.side := rfl
@[simp] theorem State.setChoices_queues (s : State) (x : Nat) : (s.setChoices x).queues = s.queues := rfl
@[simp] theorem State.setChoices_scans (s : State) (x : Nat) : (s.setChoices x).scans = s.scans := rfl
@[simp] theorem State.setChoices_geometry (s : State) (x : Nat) : (s.setChoices x).geometry = s.geometry := rfl
@[simp] theorem State.setChoices_reserved (s : State) (x : Nat) : (s.setChoices x).reserved = s.reserved := rfl
@[simp] theorem State.setChoices_groups (s : State) (x : Nat) : (s.setChoices x).groups = s.groups := rfl
@[simp] theorem State.setChoices_ports (s : State) (x : Nat) : (s.setChoices x).ports = s.ports := rfl
@[simp] theorem State.setChoices_monOf (s : State) (x : Nat) (d : Drive) : (s.setChoices x).monOf d = s.monOf d := rfl
@[simp] theorem State.setChoices_sideOf (s : State) (x : Nat) (d : Drive) : (s.setChoices x).sideOf d = s.sideOf d := rfl
@[simp] theorem State.setChoices_queue (s : State) (x : Nat) (d : Drive) : (s.setChoices x).queue d = s.queue d := rfl
@[simp] theorem State.setChoices_scanOf (s : State) (x : Nat) (d : Drive) : (s.setChoices x).scanOf d = s.scanOf d := rfl
@[simp] theorem State.setChoices_geom (s : State) (x : Nat) (d : Drive) : (s.setChoices x).geom d = s.geom d := rfl
@[simp] theorem State.setChoices_reservedBy (s : State) (x : Nat) (d : Drive) : (s.setChoices x).reservedBy d = s.reservedBy d := rfl
@[simp] theorem State.setChoices_group (s : State) (x : Nat) (p : Path) : (s.setChoices x).group p = s.group p := rfl
@[simp] theorem State.setChoices_port (s : State) (x : Nat) (p : Path) : (s.setChoices x).port p = s.port p := rfl

/-! ### `State.setPending` -/

@[simp] theorem State.setPending_gate (s : State) (x : List Instr) : (s.setPending x).gate = s.gate := rfl
@[simp] theorem State.setPending_lastWrite (s : State) (x : List Instr) : (s.setPending x).lastWrite = s.lastWrite := rfl
@[simp] theorem State.setPending_lastRead (s : State) (x : List Instr) : (s.setPending x).lastRead = s.lastRead := rfl
@[simp] theorem State.setPending_engine (s : State) (x : List Instr) : (s.setPending x).engine = s.engine := rfl
@[simp] theorem State.setPending_walk (s : State) (x : List Instr) : (s.setPending x).walk = s.walk := rfl
@[simp] theorem State.setPending_trackWalk (s : State) (x : List Instr) : (s.setPending x).trackWalk = s.trackWalk := rfl
@[simp] theorem State.setPending_notes (s : State) (x : List Instr) : (s.setPending x).notes = s.notes := rfl
@[simp] theorem State.setPending_watch (s : State) (x : List Instr) : (s.setPending x).watch = s.watch := rfl
@[simp] theorem State.setPending_relocQ (s : State) (x : List Instr) : (s.setPending x).relocQ = s.relocQ := rfl
@[simp] theorem State.setPending_reloc (s : State) (x : List Instr) : (s.setPending x).reloc = s.reloc := rfl
@[simp] theorem State.setPending_buffer (s : State) (x : List Instr) : (s.setPending x).buffer = s.buffer := rfl
@[simp] theorem State.setPending_map (s : State) (x : List Instr) : (s.setPending x).map = s.map := rfl
@[simp] theorem State.setPending_profiles (s : State) (x : List Instr) : (s.setPending x).profiles = s.profiles := rfl
@[simp] theorem State.setPending_extents (s : State) (x : List Instr) : (s.setPending x).extents = s.extents := rfl
@[simp] theorem State.setPending_ladder (s : State) (x : List Instr) : (s.setPending x).ladder = s.ladder := rfl
@[simp] theorem State.setPending_policy (s : State) (x : List Instr) : (s.setPending x).policy = s.policy := rfl
@[simp] theorem State.setPending_load (s : State) (x : List Instr) : (s.setPending x).load = s.load := rfl
@[simp] theorem State.setPending_lastHost (s : State) (x : List Instr) : (s.setPending x).lastHost = s.lastHost := rfl
@[simp] theorem State.setPending_choices (s : State) (x : List Instr) : (s.setPending x).choices = s.choices := rfl
@[simp] theorem State.setPending_pending (s : State) (x : List Instr) : (s.setPending x).pending = x := rfl
@[simp] theorem State.setPending_mon (s : State) (x : List Instr) : (s.setPending x).mon = s.mon := rfl
@[simp] theorem State.setPending_side (s : State) (x : List Instr) : (s.setPending x).side = s.side := rfl
@[simp] theorem State.setPending_queues (s : State) (x : List Instr) : (s.setPending x).queues = s.queues := rfl
@[simp] theorem State.setPending_scans (s : State) (x : List Instr) : (s.setPending x).scans = s.scans := rfl
@[simp] theorem State.setPending_geometry (s : State) (x : List Instr) : (s.setPending x).geometry = s.geometry := rfl
@[simp] theorem State.setPending_reserved (s : State) (x : List Instr) : (s.setPending x).reserved = s.reserved := rfl
@[simp] theorem State.setPending_groups (s : State) (x : List Instr) : (s.setPending x).groups = s.groups := rfl
@[simp] theorem State.setPending_ports (s : State) (x : List Instr) : (s.setPending x).ports = s.ports := rfl
@[simp] theorem State.setPending_monOf (s : State) (x : List Instr) (d : Drive) : (s.setPending x).monOf d = s.monOf d := rfl
@[simp] theorem State.setPending_sideOf (s : State) (x : List Instr) (d : Drive) : (s.setPending x).sideOf d = s.sideOf d := rfl
@[simp] theorem State.setPending_queue (s : State) (x : List Instr) (d : Drive) : (s.setPending x).queue d = s.queue d := rfl
@[simp] theorem State.setPending_scanOf (s : State) (x : List Instr) (d : Drive) : (s.setPending x).scanOf d = s.scanOf d := rfl
@[simp] theorem State.setPending_geom (s : State) (x : List Instr) (d : Drive) : (s.setPending x).geom d = s.geom d := rfl
@[simp] theorem State.setPending_reservedBy (s : State) (x : List Instr) (d : Drive) : (s.setPending x).reservedBy d = s.reservedBy d := rfl
@[simp] theorem State.setPending_group (s : State) (x : List Instr) (p : Path) : (s.setPending x).group p = s.group p := rfl
@[simp] theorem State.setPending_port (s : State) (x : List Instr) (p : Path) : (s.setPending x).port p = s.port p := rfl

/-! ### `State.setMon` -/

@[simp] theorem State.setMon_gate (s : State) (d : Drive) (x : Monitor) : (s.setMon d x).gate = s.gate := rfl
@[simp] theorem State.setMon_lastWrite (s : State) (d : Drive) (x : Monitor) : (s.setMon d x).lastWrite = s.lastWrite := rfl
@[simp] theorem State.setMon_lastRead (s : State) (d : Drive) (x : Monitor) : (s.setMon d x).lastRead = s.lastRead := rfl
@[simp] theorem State.setMon_engine (s : State) (d : Drive) (x : Monitor) : (s.setMon d x).engine = s.engine := rfl
@[simp] theorem State.setMon_walk (s : State) (d : Drive) (x : Monitor) : (s.setMon d x).walk = s.walk := rfl
@[simp] theorem State.setMon_trackWalk (s : State) (d : Drive) (x : Monitor) : (s.setMon d x).trackWalk = s.trackWalk := rfl
@[simp] theorem State.setMon_notes (s : State) (d : Drive) (x : Monitor) : (s.setMon d x).notes = s.notes := rfl
@[simp] theorem State.setMon_watch (s : State) (d : Drive) (x : Monitor) : (s.setMon d x).watch = s.watch := rfl
@[simp] theorem State.setMon_relocQ (s : State) (d : Drive) (x : Monitor) : (s.setMon d x).relocQ = s.relocQ := rfl
@[simp] theorem State.setMon_reloc (s : State) (d : Drive) (x : Monitor) : (s.setMon d x).reloc = s.reloc := rfl
@[simp] theorem State.setMon_buffer (s : State) (d : Drive) (x : Monitor) : (s.setMon d x).buffer = s.buffer := rfl
@[simp] theorem State.setMon_map (s : State) (d : Drive) (x : Monitor) : (s.setMon d x).map = s.map := rfl
@[simp] theorem State.setMon_profiles (s : State) (d : Drive) (x : Monitor) : (s.setMon d x).profiles = s.profiles := rfl
@[simp] theorem State.setMon_extents (s : State) (d : Drive) (x : Monitor) : (s.setMon d x).extents = s.extents := rfl
@[simp] theorem State.setMon_ladder (s : State) (d : Drive) (x : Monitor) : (s.setMon d x).ladder = s.ladder := rfl
@[simp] theorem State.setMon_policy (s : State) (d : Drive) (x : Monitor) : (s.setMon d x).policy = s.policy := rfl
@[simp] theorem State.setMon_load (s : State) (d : Drive) (x : Monitor) : (s.setMon d x).load = s.load := rfl
@[simp] theorem State.setMon_lastHost (s : State) (d : Drive) (x : Monitor) : (s.setMon d x).lastHost = s.lastHost := rfl
@[simp] theorem State.setMon_choices (s : State) (d : Drive) (x : Monitor) : (s.setMon d x).choices = s.choices := rfl
@[simp] theorem State.setMon_pending (s : State) (d : Drive) (x : Monitor) : (s.setMon d x).pending = s.pending := rfl
@[simp] theorem State.setMon_side (s : State) (d : Drive) (x : Monitor) : (s.setMon d x).side = s.side := rfl
@[simp] theorem State.setMon_queues (s : State) (d : Drive) (x : Monitor) : (s.setMon d x).queues = s.queues := rfl
@[simp] theorem State.setMon_scans (s : State) (d : Drive) (x : Monitor) : (s.setMon d x).scans = s.scans := rfl
@[simp] theorem State.setMon_geometry (s : State) (d : Drive) (x : Monitor) : (s.setMon d x).geometry = s.geometry := rfl
@[simp] theorem State.setMon_reserved (s : State) (d : Drive) (x : Monitor) : (s.setMon d x).reserved = s.reserved := rfl
@[simp] theorem State.setMon_groups (s : State) (d : Drive) (x : Monitor) : (s.setMon d x).groups = s.groups := rfl
@[simp] theorem State.setMon_ports (s : State) (d : Drive) (x : Monitor) : (s.setMon d x).ports = s.ports := rfl
@[simp] theorem State.setMon_sideOf (s : State) (d : Drive) (x : Monitor) (e : Drive) : (s.setMon d x).sideOf e = s.sideOf e := rfl
@[simp] theorem State.setMon_queue (s : State) (d : Drive) (x : Monitor) (e : Drive) : (s.setMon d x).queue e = s.queue e := rfl
@[simp] theorem State.setMon_scanOf (s : State) (d : Drive) (x : Monitor) (e : Drive) : (s.setMon d x).scanOf e = s.scanOf e := rfl
@[simp] theorem State.setMon_geom (s : State) (d : Drive) (x : Monitor) (e : Drive) : (s.setMon d x).geom e = s.geom e := rfl
@[simp] theorem State.setMon_reservedBy (s : State) (d : Drive) (x : Monitor) (e : Drive) : (s.setMon d x).reservedBy e = s.reservedBy e := rfl
@[simp] theorem State.setMon_group (s : State) (d : Drive) (x : Monitor) (q : Path) : (s.setMon d x).group q = s.group q := rfl
@[simp] theorem State.setMon_port (s : State) (d : Drive) (x : Monitor) (q : Path) : (s.setMon d x).port q = s.port q := rfl
@[simp] theorem State.setMon_monOf_same (s : State) (d : Drive) (x : Monitor) : (s.setMon d x).monOf d = x :=
  PerDrive.get_set_same _ _ _
@[simp] theorem State.setMon_monOf_other (s : State) (d e : Drive) (x : Monitor) (h : e ≠ d) :
    (s.setMon d x).monOf e = s.monOf e :=
  PerDrive.get_set_other _ _ _ _ h

/-! ### `State.setSide` -/

@[simp] theorem State.setSide_gate (s : State) (d : Drive) (x : DriveSide) : (s.setSide d x).gate = s.gate := rfl
@[simp] theorem State.setSide_lastWrite (s : State) (d : Drive) (x : DriveSide) : (s.setSide d x).lastWrite = s.lastWrite := rfl
@[simp] theorem State.setSide_lastRead (s : State) (d : Drive) (x : DriveSide) : (s.setSide d x).lastRead = s.lastRead := rfl
@[simp] theorem State.setSide_engine (s : State) (d : Drive) (x : DriveSide) : (s.setSide d x).engine = s.engine := rfl
@[simp] theorem State.setSide_walk (s : State) (d : Drive) (x : DriveSide) : (s.setSide d x).walk = s.walk := rfl
@[simp] theorem State.setSide_trackWalk (s : State) (d : Drive) (x : DriveSide) : (s.setSide d x).trackWalk = s.trackWalk := rfl
@[simp] theorem State.setSide_notes (s : State) (d : Drive) (x : DriveSide) : (s.setSide d x).notes = s.notes := rfl
@[simp] theorem State.setSide_watch (s : State) (d : Drive) (x : DriveSide) : (s.setSide d x).watch = s.watch := rfl
@[simp] theorem State.setSide_relocQ (s : State) (d : Drive) (x : DriveSide) : (s.setSide d x).relocQ = s.relocQ := rfl
@[simp] theorem State.setSide_reloc (s : State) (d : Drive) (x : DriveSide) : (s.setSide d x).reloc = s.reloc := rfl
@[simp] theorem State.setSide_buffer (s : State) (d : Drive) (x : DriveSide) : (s.setSide d x).buffer = s.buffer := rfl
@[simp] theorem State.setSide_map (s : State) (d : Drive) (x : DriveSide) : (s.setSide d x).map = s.map := rfl
@[simp] theorem State.setSide_profiles (s : State) (d : Drive) (x : DriveSide) : (s.setSide d x).profiles = s.profiles := rfl
@[simp] theorem State.setSide_extents (s : State) (d : Drive) (x : DriveSide) : (s.setSide d x).extents = s.extents := rfl
@[simp] theorem State.setSide_ladder (s : State) (d : Drive) (x : DriveSide) : (s.setSide d x).ladder = s.ladder := rfl
@[simp] theorem State.setSide_policy (s : State) (d : Drive) (x : DriveSide) : (s.setSide d x).policy = s.policy := rfl
@[simp] theorem State.setSide_load (s : State) (d : Drive) (x : DriveSide) : (s.setSide d x).load = s.load := rfl
@[simp] theorem State.setSide_lastHost (s : State) (d : Drive) (x : DriveSide) : (s.setSide d x).lastHost = s.lastHost := rfl
@[simp] theorem State.setSide_choices (s : State) (d : Drive) (x : DriveSide) : (s.setSide d x).choices = s.choices := rfl
@[simp] theorem State.setSide_pending (s : State) (d : Drive) (x : DriveSide) : (s.setSide d x).pending = s.pending := rfl
@[simp] theorem State.setSide_mon (s : State) (d : Drive) (x : DriveSide) : (s.setSide d x).mon = s.mon := rfl
@[simp] theorem State.setSide_queues (s : State) (d : Drive) (x : DriveSide) : (s.setSide d x).queues = s.queues := rfl
@[simp] theorem State.setSide_scans (s : State) (d : Drive) (x : DriveSide) : (s.setSide d x).scans = s.scans := rfl
@[simp] theorem State.setSide_geometry (s : State) (d : Drive) (x : DriveSide) : (s.setSide d x).geometry = s.geometry := rfl
@[simp] theorem State.setSide_reserved (s : State) (d : Drive) (x : DriveSide) : (s.setSide d x).reserved = s.reserved := rfl
@[simp] theorem State.setSide_groups (s : State) (d : Drive) (x : DriveSide) : (s.setSide d x).groups = s.groups := rfl
@[simp] theorem State.setSide_ports (s : State) (d : Drive) (x : DriveSide) : (s.setSide d x).ports = s.ports := rfl
@[simp] theorem State.setSide_monOf (s : State) (d : Drive) (x : DriveSide) (e : Drive) : (s.setSide d x).monOf e = s.monOf e := rfl
@[simp] theorem State.setSide_queue (s : State) (d : Drive) (x : DriveSide) (e : Drive) : (s.setSide d x).queue e = s.queue e := rfl
@[simp] theorem State.setSide_scanOf (s : State) (d : Drive) (x : DriveSide) (e : Drive) : (s.setSide d x).scanOf e = s.scanOf e := rfl
@[simp] theorem State.setSide_geom (s : State) (d : Drive) (x : DriveSide) (e : Drive) : (s.setSide d x).geom e = s.geom e := rfl
@[simp] theorem State.setSide_reservedBy (s : State) (d : Drive) (x : DriveSide) (e : Drive) : (s.setSide d x).reservedBy e = s.reservedBy e := rfl
@[simp] theorem State.setSide_group (s : State) (d : Drive) (x : DriveSide) (q : Path) : (s.setSide d x).group q = s.group q := rfl
@[simp] theorem State.setSide_port (s : State) (d : Drive) (x : DriveSide) (q : Path) : (s.setSide d x).port q = s.port q := rfl
@[simp] theorem State.setSide_sideOf_same (s : State) (d : Drive) (x : DriveSide) : (s.setSide d x).sideOf d = x :=
  PerDrive.get_set_same _ _ _
@[simp] theorem State.setSide_sideOf_other (s : State) (d e : Drive) (x : DriveSide) (h : e ≠ d) :
    (s.setSide d x).sideOf e = s.sideOf e :=
  PerDrive.get_set_other _ _ _ _ h

/-! ### `State.setQueue` -/

@[simp] theorem State.setQueue_gate (s : State) (d : Drive) (x : List Request) : (s.setQueue d x).gate = s.gate := rfl
@[simp] theorem State.setQueue_lastWrite (s : State) (d : Drive) (x : List Request) : (s.setQueue d x).lastWrite = s.lastWrite := rfl
@[simp] theorem State.setQueue_lastRead (s : State) (d : Drive) (x : List Request) : (s.setQueue d x).lastRead = s.lastRead := rfl
@[simp] theorem State.setQueue_engine (s : State) (d : Drive) (x : List Request) : (s.setQueue d x).engine = s.engine := rfl
@[simp] theorem State.setQueue_walk (s : State) (d : Drive) (x : List Request) : (s.setQueue d x).walk = s.walk := rfl
@[simp] theorem State.setQueue_trackWalk (s : State) (d : Drive) (x : List Request) : (s.setQueue d x).trackWalk = s.trackWalk := rfl
@[simp] theorem State.setQueue_notes (s : State) (d : Drive) (x : List Request) : (s.setQueue d x).notes = s.notes := rfl
@[simp] theorem State.setQueue_watch (s : State) (d : Drive) (x : List Request) : (s.setQueue d x).watch = s.watch := rfl
@[simp] theorem State.setQueue_relocQ (s : State) (d : Drive) (x : List Request) : (s.setQueue d x).relocQ = s.relocQ := rfl
@[simp] theorem State.setQueue_reloc (s : State) (d : Drive) (x : List Request) : (s.setQueue d x).reloc = s.reloc := rfl
@[simp] theorem State.setQueue_buffer (s : State) (d : Drive) (x : List Request) : (s.setQueue d x).buffer = s.buffer := rfl
@[simp] theorem State.setQueue_map (s : State) (d : Drive) (x : List Request) : (s.setQueue d x).map = s.map := rfl
@[simp] theorem State.setQueue_profiles (s : State) (d : Drive) (x : List Request) : (s.setQueue d x).profiles = s.profiles := rfl
@[simp] theorem State.setQueue_extents (s : State) (d : Drive) (x : List Request) : (s.setQueue d x).extents = s.extents := rfl
@[simp] theorem State.setQueue_ladder (s : State) (d : Drive) (x : List Request) : (s.setQueue d x).ladder = s.ladder := rfl
@[simp] theorem State.setQueue_policy (s : State) (d : Drive) (x : List Request) : (s.setQueue d x).policy = s.policy := rfl
@[simp] theorem State.setQueue_load (s : State) (d : Drive) (x : List Request) : (s.setQueue d x).load = s.load := rfl
@[simp] theorem State.setQueue_lastHost (s : State) (d : Drive) (x : List Request) : (s.setQueue d x).lastHost = s.lastHost := rfl
@[simp] theorem State.setQueue_choices (s : State) (d : Drive) (x : List Request) : (s.setQueue d x).choices = s.choices := rfl
@[simp] theorem State.setQueue_pending (s : State) (d : Drive) (x : List Request) : (s.setQueue d x).pending = s.pending := rfl
@[simp] theorem State.setQueue_mon (s : State) (d : Drive) (x : List Request) : (s.setQueue d x).mon = s.mon := rfl
@[simp] theorem State.setQueue_side (s : State) (d : Drive) (x : List Request) : (s.setQueue d x).side = s.side := rfl
@[simp] theorem State.setQueue_scans (s : State) (d : Drive) (x : List Request) : (s.setQueue d x).scans = s.scans := rfl
@[simp] theorem State.setQueue_geometry (s : State) (d : Drive) (x : List Request) : (s.setQueue d x).geometry = s.geometry := rfl
@[simp] theorem State.setQueue_reserved (s : State) (d : Drive) (x : List Request) : (s.setQueue d x).reserved = s.reserved := rfl
@[simp] theorem State.setQueue_groups (s : State) (d : Drive) (x : List Request) : (s.setQueue d x).groups = s.groups := rfl
@[simp] theorem State.setQueue_ports (s : State) (d : Drive) (x : List Request) : (s.setQueue d x).ports = s.ports := rfl
@[simp] theorem State.setQueue_monOf (s : State) (d : Drive) (x : List Request) (e : Drive) : (s.setQueue d x).monOf e = s.monOf e := rfl
@[simp] theorem State.setQueue_sideOf (s : State) (d : Drive) (x : List Request) (e : Drive) : (s.setQueue d x).sideOf e = s.sideOf e := rfl
@[simp] theorem State.setQueue_scanOf (s : State) (d : Drive) (x : List Request) (e : Drive) : (s.setQueue d x).scanOf e = s.scanOf e := rfl
@[simp] theorem State.setQueue_geom (s : State) (d : Drive) (x : List Request) (e : Drive) : (s.setQueue d x).geom e = s.geom e := rfl
@[simp] theorem State.setQueue_reservedBy (s : State) (d : Drive) (x : List Request) (e : Drive) : (s.setQueue d x).reservedBy e = s.reservedBy e := rfl
@[simp] theorem State.setQueue_group (s : State) (d : Drive) (x : List Request) (q : Path) : (s.setQueue d x).group q = s.group q := rfl
@[simp] theorem State.setQueue_port (s : State) (d : Drive) (x : List Request) (q : Path) : (s.setQueue d x).port q = s.port q := rfl
@[simp] theorem State.setQueue_queue_same (s : State) (d : Drive) (x : List Request) : (s.setQueue d x).queue d = x :=
  PerDrive.get_set_same _ _ _
@[simp] theorem State.setQueue_queue_other (s : State) (d e : Drive) (x : List Request) (h : e ≠ d) :
    (s.setQueue d x).queue e = s.queue e :=
  PerDrive.get_set_other _ _ _ _ h

/-! ### `State.setScan` -/

@[simp] theorem State.setScan_gate (s : State) (d : Drive) (x : ScanState) : (s.setScan d x).gate = s.gate := rfl
@[simp] theorem State.setScan_lastWrite (s : State) (d : Drive) (x : ScanState) : (s.setScan d x).lastWrite = s.lastWrite := rfl
@[simp] theorem State.setScan_lastRead (s : State) (d : Drive) (x : ScanState) : (s.setScan d x).lastRead = s.lastRead := rfl
@[simp] theorem State.setScan_engine (s : State) (d : Drive) (x : ScanState) : (s.setScan d x).engine = s.engine := rfl
@[simp] theorem State.setScan_walk (s : State) (d : Drive) (x : ScanState) : (s.setScan d x).walk = s.walk := rfl
@[simp] theorem State.setScan_trackWalk (s : State) (d : Drive) (x : ScanState) : (s.setScan d x).trackWalk = s.trackWalk := rfl
@[simp] theorem State.setScan_notes (s : State) (d : Drive) (x : ScanState) : (s.setScan d x).notes = s.notes := rfl
@[simp] theorem State.setScan_watch (s : State) (d : Drive) (x : ScanState) : (s.setScan d x).watch = s.watch := rfl
@[simp] theorem State.setScan_relocQ (s : State) (d : Drive) (x : ScanState) : (s.setScan d x).relocQ = s.relocQ := rfl
@[simp] theorem State.setScan_reloc (s : State) (d : Drive) (x : ScanState) : (s.setScan d x).reloc = s.reloc := rfl
@[simp] theorem State.setScan_buffer (s : State) (d : Drive) (x : ScanState) : (s.setScan d x).buffer = s.buffer := rfl
@[simp] theorem State.setScan_map (s : State) (d : Drive) (x : ScanState) : (s.setScan d x).map = s.map := rfl
@[simp] theorem State.setScan_profiles (s : State) (d : Drive) (x : ScanState) : (s.setScan d x).profiles = s.profiles := rfl
@[simp] theorem State.setScan_extents (s : State) (d : Drive) (x : ScanState) : (s.setScan d x).extents = s.extents := rfl
@[simp] theorem State.setScan_ladder (s : State) (d : Drive) (x : ScanState) : (s.setScan d x).ladder = s.ladder := rfl
@[simp] theorem State.setScan_policy (s : State) (d : Drive) (x : ScanState) : (s.setScan d x).policy = s.policy := rfl
@[simp] theorem State.setScan_load (s : State) (d : Drive) (x : ScanState) : (s.setScan d x).load = s.load := rfl
@[simp] theorem State.setScan_lastHost (s : State) (d : Drive) (x : ScanState) : (s.setScan d x).lastHost = s.lastHost := rfl
@[simp] theorem State.setScan_choices (s : State) (d : Drive) (x : ScanState) : (s.setScan d x).choices = s.choices := rfl
@[simp] theorem State.setScan_pending (s : State) (d : Drive) (x : ScanState) : (s.setScan d x).pending = s.pending := rfl
@[simp] theorem State.setScan_mon (s : State) (d : Drive) (x : ScanState) : (s.setScan d x).mon = s.mon := rfl
@[simp] theorem State.setScan_side (s : State) (d : Drive) (x : ScanState) : (s.setScan d x).side = s.side := rfl
@[simp] theorem State.setScan_queues (s : State) (d : Drive) (x : ScanState) : (s.setScan d x).queues = s.queues := rfl
@[simp] theorem State.setScan_geometry (s : State) (d : Drive) (x : ScanState) : (s.setScan d x).geometry = s.geometry := rfl
@[simp] theorem State.setScan_reserved (s : State) (d : Drive) (x : ScanState) : (s.setScan d x).reserved = s.reserved := rfl
@[simp] theorem State.setScan_groups (s : State) (d : Drive) (x : ScanState) : (s.setScan d x).groups = s.groups := rfl
@[simp] theorem State.setScan_ports (s : State) (d : Drive) (x : ScanState) : (s.setScan d x).ports = s.ports := rfl
@[simp] theorem State.setScan_monOf (s : State) (d : Drive) (x : ScanState) (e : Drive) : (s.setScan d x).monOf e = s.monOf e := rfl
@[simp] theorem State.setScan_sideOf (s : State) (d : Drive) (x : ScanState) (e : Drive) : (s.setScan d x).sideOf e = s.sideOf e := rfl
@[simp] theorem State.setScan_queue (s : State) (d : Drive) (x : ScanState) (e : Drive) : (s.setScan d x).queue e = s.queue e := rfl
@[simp] theorem State.setScan_geom (s : State) (d : Drive) (x : ScanState) (e : Drive) : (s.setScan d x).geom e = s.geom e := rfl
@[simp] theorem State.setScan_reservedBy (s : State) (d : Drive) (x : ScanState) (e : Drive) : (s.setScan d x).reservedBy e = s.reservedBy e := rfl
@[simp] theorem State.setScan_group (s : State) (d : Drive) (x : ScanState) (q : Path) : (s.setScan d x).group q = s.group q := rfl
@[simp] theorem State.setScan_port (s : State) (d : Drive) (x : ScanState) (q : Path) : (s.setScan d x).port q = s.port q := rfl
@[simp] theorem State.setScan_scanOf_same (s : State) (d : Drive) (x : ScanState) : (s.setScan d x).scanOf d = x :=
  PerDrive.get_set_same _ _ _
@[simp] theorem State.setScan_scanOf_other (s : State) (d e : Drive) (x : ScanState) (h : e ≠ d) :
    (s.setScan d x).scanOf e = s.scanOf e :=
  PerDrive.get_set_other _ _ _ _ h

/-! ### `State.setGeom` -/

@[simp] theorem State.setGeom_gate (s : State) (d : Drive) (x : Geometry) : (s.setGeom d x).gate = s.gate := rfl
@[simp] theorem State.setGeom_lastWrite (s : State) (d : Drive) (x : Geometry) : (s.setGeom d x).lastWrite = s.lastWrite := rfl
@[simp] theorem State.setGeom_lastRead (s : State) (d : Drive) (x : Geometry) : (s.setGeom d x).lastRead = s.lastRead := rfl
@[simp] theorem State.setGeom_engine (s : State) (d : Drive) (x : Geometry) : (s.setGeom d x).engine = s.engine := rfl
@[simp] theorem State.setGeom_walk (s : State) (d : Drive) (x : Geometry) : (s.setGeom d x).walk = s.walk := rfl
@[simp] theorem State.setGeom_trackWalk (s : State) (d : Drive) (x : Geometry) : (s.setGeom d x).trackWalk = s.trackWalk := rfl
@[simp] theorem State.setGeom_notes (s : State) (d : Drive) (x : Geometry) : (s.setGeom d x).notes = s.notes := rfl
@[simp] theorem State.setGeom_watch (s : State) (d : Drive) (x : Geometry) : (s.setGeom d x).watch = s.watch := rfl
@[simp] theorem State.setGeom_relocQ (s : State) (d : Drive) (x : Geometry) : (s.setGeom d x).relocQ = s.relocQ := rfl
@[simp] theorem State.setGeom_reloc (s : State) (d : Drive) (x : Geometry) : (s.setGeom d x).reloc = s.reloc := rfl
@[simp] theorem State.setGeom_buffer (s : State) (d : Drive) (x : Geometry) : (s.setGeom d x).buffer = s.buffer := rfl
@[simp] theorem State.setGeom_map (s : State) (d : Drive) (x : Geometry) : (s.setGeom d x).map = s.map := rfl
@[simp] theorem State.setGeom_profiles (s : State) (d : Drive) (x : Geometry) : (s.setGeom d x).profiles = s.profiles := rfl
@[simp] theorem State.setGeom_extents (s : State) (d : Drive) (x : Geometry) : (s.setGeom d x).extents = s.extents := rfl
@[simp] theorem State.setGeom_ladder (s : State) (d : Drive) (x : Geometry) : (s.setGeom d x).ladder = s.ladder := rfl
@[simp] theorem State.setGeom_policy (s : State) (d : Drive) (x : Geometry) : (s.setGeom d x).policy = s.policy := rfl
@[simp] theorem State.setGeom_load (s : State) (d : Drive) (x : Geometry) : (s.setGeom d x).load = s.load := rfl
@[simp] theorem State.setGeom_lastHost (s : State) (d : Drive) (x : Geometry) : (s.setGeom d x).lastHost = s.lastHost := rfl
@[simp] theorem State.setGeom_choices (s : State) (d : Drive) (x : Geometry) : (s.setGeom d x).choices = s.choices := rfl
@[simp] theorem State.setGeom_pending (s : State) (d : Drive) (x : Geometry) : (s.setGeom d x).pending = s.pending := rfl
@[simp] theorem State.setGeom_mon (s : State) (d : Drive) (x : Geometry) : (s.setGeom d x).mon = s.mon := rfl
@[simp] theorem State.setGeom_side (s : State) (d : Drive) (x : Geometry) : (s.setGeom d x).side = s.side := rfl
@[simp] theorem State.setGeom_queues (s : State) (d : Drive) (x : Geometry) : (s.setGeom d x).queues = s.queues := rfl
@[simp] theorem State.setGeom_scans (s : State) (d : Drive) (x : Geometry) : (s.setGeom d x).scans = s.scans := rfl
@[simp] theorem State.setGeom_reserved (s : State) (d : Drive) (x : Geometry) : (s.setGeom d x).reserved = s.reserved := rfl
@[simp] theorem State.setGeom_groups (s : State) (d : Drive) (x : Geometry) : (s.setGeom d x).groups = s.groups := rfl
@[simp] theorem State.setGeom_ports (s : State) (d : Drive) (x : Geometry) : (s.setGeom d x).ports = s.ports := rfl
@[simp] theorem State.setGeom_monOf (s : State) (d : Drive) (x : Geometry) (e : Drive) : (s.setGeom d x).monOf e = s.monOf e := rfl
@[simp] theorem State.setGeom_sideOf (s : State) (d : Drive) (x : Geometry) (e : Drive) : (s.setGeom d x).sideOf e = s.sideOf e := rfl
@[simp] theorem State.setGeom_queue (s : State) (d : Drive) (x : Geometry) (e : Drive) : (s.setGeom d x).queue e = s.queue e := rfl
@[simp] theorem State.setGeom_scanOf (s : State) (d : Drive) (x : Geometry) (e : Drive) : (s.setGeom d x).scanOf e = s.scanOf e := rfl
@[simp] theorem State.setGeom_reservedBy (s : State) (d : Drive) (x : Geometry) (e : Drive) : (s.setGeom d x).reservedBy e = s.reservedBy e := rfl
@[simp] theorem State.setGeom_group (s : State) (d : Drive) (x : Geometry) (q : Path) : (s.setGeom d x).group q = s.group q := rfl
@[simp] theorem State.setGeom_port (s : State) (d : Drive) (x : Geometry) (q : Path) : (s.setGeom d x).port q = s.port q := rfl
@[simp] theorem State.setGeom_geom_same (s : State) (d : Drive) (x : Geometry) : (s.setGeom d x).geom d = x :=
  PerDrive.get_set_same _ _ _
@[simp] theorem State.setGeom_geom_other (s : State) (d e : Drive) (x : Geometry) (h : e ≠ d) :
    (s.setGeom d x).geom e = s.geom e :=
  PerDrive.get_set_other _ _ _ _ h

/-! ### `State.setReserved` -/

@[simp] theorem State.setReserved_gate (s : State) (d : Drive) (x : Option Nat) : (s.setReserved d x).gate = s.gate := rfl
@[simp] theorem State.setReserved_lastWrite (s : State) (d : Drive) (x : Option Nat) : (s.setReserved d x).lastWrite = s.lastWrite := rfl
@[simp] theorem State.setReserved_lastRead (s : State) (d : Drive) (x : Option Nat) : (s.setReserved d x).lastRead = s.lastRead := rfl
@[simp] theorem State.setReserved_engine (s : State) (d : Drive) (x : Option Nat) : (s.setReserved d x).engine = s.engine := rfl
@[simp] theorem State.setReserved_walk (s : State) (d : Drive) (x : Option Nat) : (s.setReserved d x).walk = s.walk := rfl
@[simp] theorem State.setReserved_trackWalk (s : State) (d : Drive) (x : Option Nat) : (s.setReserved d x).trackWalk = s.trackWalk := rfl
@[simp] theorem State.setReserved_notes (s : State) (d : Drive) (x : Option Nat) : (s.setReserved d x).notes = s.notes := rfl
@[simp] theorem State.setReserved_watch (s : State) (d : Drive) (x : Option Nat) : (s.setReserved d x).watch = s.watch := rfl
@[simp] theorem State.setReserved_relocQ (s : State) (d : Drive) (x : Option Nat) : (s.setReserved d x).relocQ = s.relocQ := rfl
@[simp] theorem State.setReserved_reloc (s : State) (d : Drive) (x : Option Nat) : (s.setReserved d x).reloc = s.reloc := rfl
@[simp] theorem State.setReserved_buffer (s : State) (d : Drive) (x : Option Nat) : (s.setReserved d x).buffer = s.buffer := rfl
@[simp] theorem State.setReserved_map (s : State) (d : Drive) (x : Option Nat) : (s.setReserved d x).map = s.map := rfl
@[simp] theorem State.setReserved_profiles (s : State) (d : Drive) (x : Option Nat) : (s.setReserved d x).profiles = s.profiles := rfl
@[simp] theorem State.setReserved_extents (s : State) (d : Drive) (x : Option Nat) : (s.setReserved d x).extents = s.extents := rfl
@[simp] theorem State.setReserved_ladder (s : State) (d : Drive) (x : Option Nat) : (s.setReserved d x).ladder = s.ladder := rfl
@[simp] theorem State.setReserved_policy (s : State) (d : Drive) (x : Option Nat) : (s.setReserved d x).policy = s.policy := rfl
@[simp] theorem State.setReserved_load (s : State) (d : Drive) (x : Option Nat) : (s.setReserved d x).load = s.load := rfl
@[simp] theorem State.setReserved_lastHost (s : State) (d : Drive) (x : Option Nat) : (s.setReserved d x).lastHost = s.lastHost := rfl
@[simp] theorem State.setReserved_choices (s : State) (d : Drive) (x : Option Nat) : (s.setReserved d x).choices = s.choices := rfl
@[simp] theorem State.setReserved_pending (s : State) (d : Drive) (x : Option Nat) : (s.setReserved d x).pending = s.pending := rfl
@[simp] theorem State.setReserved_mon (s : State) (d : Drive) (x : Option Nat) : (s.setReserved d x).mon = s.mon := rfl
@[simp] theorem State.setReserved_side (s : State) (d : Drive) (x : Option Nat) : (s.setReserved d x).side = s.side := rfl
@[simp] theorem State.setReserved_queues (s : State) (d : Drive) (x : Option Nat) : (s.setReserved d x).queues = s.queues := rfl
@[simp] theorem State.setReserved_scans (s : State) (d : Drive) (x : Option Nat) : (s.setReserved d x).scans = s.scans := rfl
@[simp] theorem State.setReserved_geometry (s : State) (d : Drive) (x : Option Nat) : (s.setReserved d x).geometry = s.geometry := rfl
@[simp] theorem State.setReserved_groups (s : State) (d : Drive) (x : Option Nat) : (s.setReserved d x).groups = s.groups := rfl
@[simp] theorem State.setReserved_ports (s : State) (d : Drive) (x : Option Nat) : (s.setReserved d x).ports = s.ports := rfl
@[simp] theorem State.setReserved_monOf (s : State) (d : Drive) (x : Option Nat) (e : Drive) : (s.setReserved d x).monOf e = s.monOf e := rfl
@[simp] theorem State.setReserved_sideOf (s : State) (d : Drive) (x : Option Nat) (e : Drive) : (s.setReserved d x).sideOf e = s.sideOf e := rfl
@[simp] theorem State.setReserved_queue (s : State) (d : Drive) (x : Option Nat) (e : Drive) : (s.setReserved d x).queue e = s.queue e := rfl
@[simp] theorem State.setReserved_scanOf (s : State) (d : Drive) (x : Option Nat) (e : Drive) : (s.setReserved d x).scanOf e = s.scanOf e := rfl
@[simp] theorem State.setReserved_geom (s : State) (d : Drive) (x : Option Nat) (e : Drive) : (s.setReserved d x).geom e = s.geom e := rfl
@[simp] theorem State.setReserved_group (s : State) (d : Drive) (x : Option Nat) (q : Path) : (s.setReserved d x).group q = s.group q := rfl
@[simp] theorem State.setReserved_port (s : State) (d : Drive) (x : Option Nat) (q : Path) : (s.setReserved d x).port q = s.port q := rfl
@[simp] theorem State.setReserved_reservedBy_same (s : State) (d : Drive) (x : Option Nat) : (s.setReserved d x).reservedBy d = x :=
  PerDrive.get_set_same _ _ _
@[simp] theorem State.setReserved_reservedBy_other (s : State) (d e : Drive) (x : Option Nat) (h : e ≠ d) :
    (s.setReserved d x).reservedBy e = s.reservedBy e :=
  PerDrive.get_set_other _ _ _ _ h

/-! ### `State.setGroup` -/

@[simp] theorem State.setGroup_gate (s : State) (p : Path) (x : Nat) : (s.setGroup p x).gate = s.gate := rfl
@[simp] theorem State.setGroup_lastWrite (s : State) (p : Path) (x : Nat) : (s.setGroup p x).lastWrite = s.lastWrite := rfl
@[simp] theorem State.setGroup_lastRead (s : State) (p : Path) (x : Nat) : (s.setGroup p x).lastRead = s.lastRead := rfl
@[simp] theorem State.setGroup_engine (s : State) (p : Path) (x : Nat) : (s.setGroup p x).engine = s.engine := rfl
@[simp] theorem State.setGroup_walk (s : State) (p : Path) (x : Nat) : (s.setGroup p x).walk = s.walk := rfl
@[simp] theorem State.setGroup_trackWalk (s : State) (p : Path) (x : Nat) : (s.setGroup p x).trackWalk = s.trackWalk := rfl
@[simp] theorem State.setGroup_notes (s : State) (p : Path) (x : Nat) : (s.setGroup p x).notes = s.notes := rfl
@[simp] theorem State.setGroup_watch (s : State) (p : Path) (x : Nat) : (s.setGroup p x).watch = s.watch := rfl
@[simp] theorem State.setGroup_relocQ (s : State) (p : Path) (x : Nat) : (s.setGroup p x).relocQ = s.relocQ := rfl
@[simp] theorem State.setGroup_reloc (s : State) (p : Path) (x : Nat) : (s.setGroup p x).reloc = s.reloc := rfl
@[simp] theorem State.setGroup_buffer (s : State) (p : Path) (x : Nat) : (s.setGroup p x).buffer = s.buffer := rfl
@[simp] theorem State.setGroup_map (s : State) (p : Path) (x : Nat) : (s.setGroup p x).map = s.map := rfl
@[simp] theorem State.setGroup_profiles (s : State) (p : Path) (x : Nat) : (s.setGroup p x).profiles = s.profiles := rfl
@[simp] theorem State.setGroup_extents (s : State) (p : Path) (x : Nat) : (s.setGroup p x).extents = s.extents := rfl
@[simp] theorem State.setGroup_ladder (s : State) (p : Path) (x : Nat) : (s.setGroup p x).ladder = s.ladder := rfl
@[simp] theorem State.setGroup_policy (s : State) (p : Path) (x : Nat) : (s.setGroup p x).policy = s.policy := rfl
@[simp] theorem State.setGroup_load (s : State) (p : Path) (x : Nat) : (s.setGroup p x).load = s.load := rfl
@[simp] theorem State.setGroup_lastHost (s : State) (p : Path) (x : Nat) : (s.setGroup p x).lastHost = s.lastHost := rfl
@[simp] theorem State.setGroup_choices (s : State) (p : Path) (x : Nat) : (s.setGroup p x).choices = s.choices := rfl
@[simp] theorem State.setGroup_pending (s : State) (p : Path) (x : Nat) : (s.setGroup p x).pending = s.pending := rfl
@[simp] theorem State.setGroup_mon (s : State) (p : Path) (x : Nat) : (s.setGroup p x).mon = s.mon := rfl
@[simp] theorem State.setGroup_side (s : State) (p : Path) (x : Nat) : (s.setGroup p x).side = s.side := rfl
@[simp] theorem State.setGroup_queues (s : State) (p : Path) (x : Nat) : (s.setGroup p x).queues = s.queues := rfl
@[simp] theorem State.setGroup_scans (s : State) (p : Path) (x : Nat) : (s.setGroup p x).scans = s.scans := rfl
@[simp] theorem State.setGroup_geometry (s : State) (p : Path) (x : Nat) : (s.setGroup p x).geometry = s.geometry := rfl
@[simp] theorem State.setGroup_reserved (s : State) (p : Path) (x : Nat) : (s.setGroup p x).reserved = s.reserved := rfl
@[simp] theorem State.setGroup_ports (s : State) (p : Path) (x : Nat) : (s.setGroup p x).ports = s.ports := rfl
@[simp] theorem State.setGroup_monOf (s : State) (p : Path) (x : Nat) (e : Drive) : (s.setGroup p x).monOf e = s.monOf e := rfl
@[simp] theorem State.setGroup_sideOf (s : State) (p : Path) (x : Nat) (e : Drive) : (s.setGroup p x).sideOf e = s.sideOf e := rfl
@[simp] theorem State.setGroup_queue (s : State) (p : Path) (x : Nat) (e : Drive) : (s.setGroup p x).queue e = s.queue e := rfl
@[simp] theorem State.setGroup_scanOf (s : State) (p : Path) (x : Nat) (e : Drive) : (s.setGroup p x).scanOf e = s.scanOf e := rfl
@[simp] theorem State.setGroup_geom (s : State) (p : Path) (x : Nat) (e : Drive) : (s.setGroup p x).geom e = s.geom e := rfl
@[simp] theorem State.setGroup_reservedBy (s : State) (p : Path) (x : Nat) (e : Drive) : (s.setGroup p x).reservedBy e = s.reservedBy e := rfl
@[simp] theorem State.setGroup_port (s : State) (p : Path) (x : Nat) (q : Path) : (s.setGroup p x).port q = s.port q := rfl
@[simp] theorem State.setGroup_group_same (s : State) (p : Path) (x : Nat) : (s.setGroup p x).group p = x :=
  PerPath.get_set_same _ _ _
@[simp] theorem State.setGroup_group_other (s : State) (p q : Path) (x : Nat) (h : q ≠ p) :
    (s.setGroup p x).group q = s.group q :=
  PerPath.get_set_other _ _ _ _ h

/-! ### `State.setPort` -/

@[simp] theorem State.setPort_gate (s : State) (p : Path) (x : Port) : (s.setPort p x).gate = s.gate := rfl
@[simp] theorem State.setPort_lastWrite (s : State) (p : Path) (x : Port) : (s.setPort p x).lastWrite = s.lastWrite := rfl
@[simp] theorem State.setPort_lastRead (s : State) (p : Path) (x : Port) : (s.setPort p x).lastRead = s.lastRead := rfl
@[simp] theorem State.setPort_engine (s : State) (p : Path) (x : Port) : (s.setPort p x).engine = s.engine := rfl
@[simp] theorem State.setPort_walk (s : State) (p : Path) (x : Port) : (s.setPort p x).walk = s.walk := rfl
@[simp] theorem State.setPort_trackWalk (s : State) (p : Path) (x : Port) : (s.setPort p x).trackWalk = s.trackWalk := rfl
@[simp] theorem State.setPort_notes (s : State) (p : Path) (x : Port) : (s.setPort p x).notes = s.notes := rfl
@[simp] theorem State.setPort_watch (s : State) (p : Path) (x : Port) : (s.setPort p x).watch = s.watch := rfl
@[simp] theorem State.setPort_relocQ (s : State) (p : Path) (x : Port) : (s.setPort p x).relocQ = s.relocQ := rfl
@[simp] theorem State.setPort_reloc (s : State) (p : Path) (x : Port) : (s.setPort p x).reloc = s.reloc := rfl
@[simp] theorem State.setPort_buffer (s : State) (p : Path) (x : Port) : (s.setPort p x).buffer = s.buffer := rfl
@[simp] theorem State.setPort_map (s : State) (p : Path) (x : Port) : (s.setPort p x).map = s.map := rfl
@[simp] theorem State.setPort_profiles (s : State) (p : Path) (x : Port) : (s.setPort p x).profiles = s.profiles := rfl
@[simp] theorem State.setPort_extents (s : State) (p : Path) (x : Port) : (s.setPort p x).extents = s.extents := rfl
@[simp] theorem State.setPort_ladder (s : State) (p : Path) (x : Port) : (s.setPort p x).ladder = s.ladder := rfl
@[simp] theorem State.setPort_policy (s : State) (p : Path) (x : Port) : (s.setPort p x).policy = s.policy := rfl
@[simp] theorem State.setPort_load (s : State) (p : Path) (x : Port) : (s.setPort p x).load = s.load := rfl
@[simp] theorem State.setPort_lastHost (s : State) (p : Path) (x : Port) : (s.setPort p x).lastHost = s.lastHost := rfl
@[simp] theorem State.setPort_choices (s : State) (p : Path) (x : Port) : (s.setPort p x).choices = s.choices := rfl
@[simp] theorem State.setPort_pending (s : State) (p : Path) (x : Port) : (s.setPort p x).pending = s.pending := rfl
@[simp] theorem State.setPort_mon (s : State) (p : Path) (x : Port) : (s.setPort p x).mon = s.mon := rfl
@[simp] theorem State.setPort_side (s : State) (p : Path) (x : Port) : (s.setPort p x).side = s.side := rfl
@[simp] theorem State.setPort_queues (s : State) (p : Path) (x : Port) : (s.setPort p x).queues = s.queues := rfl
@[simp] theorem State.setPort_scans (s : State) (p : Path) (x : Port) : (s.setPort p x).scans = s.scans := rfl
@[simp] theorem State.setPort_geometry (s : State) (p : Path) (x : Port) : (s.setPort p x).geometry = s.geometry := rfl
@[simp] theorem State.setPort_reserved (s : State) (p : Path) (x : Port) : (s.setPort p x).reserved = s.reserved := rfl
@[simp] theorem State.setPort_groups (s : State) (p : Path) (x : Port) : (s.setPort p x).groups = s.groups := rfl
@[simp] theorem State.setPort_monOf (s : State) (p : Path) (x : Port) (e : Drive) : (s.setPort p x).monOf e = s.monOf e := rfl
@[simp] theorem State.setPort_sideOf (s : State) (p : Path) (x : Port) (e : Drive) : (s.setPort p x).sideOf e = s.sideOf e := rfl
@[simp] theorem State.setPort_queue (s : State) (p : Path) (x : Port) (e : Drive) : (s.setPort p x).queue e = s.queue e := rfl
@[simp] theorem State.setPort_scanOf (s : State) (p : Path) (x : Port) (e : Drive) : (s.setPort p x).scanOf e = s.scanOf e := rfl
@[simp] theorem State.setPort_geom (s : State) (p : Path) (x : Port) (e : Drive) : (s.setPort p x).geom e = s.geom e := rfl
@[simp] theorem State.setPort_reservedBy (s : State) (p : Path) (x : Port) (e : Drive) : (s.setPort p x).reservedBy e = s.reservedBy e := rfl
@[simp] theorem State.setPort_group (s : State) (p : Path) (x : Port) (q : Path) : (s.setPort p x).group q = s.group q := rfl
@[simp] theorem State.setPort_port_same (s : State) (p : Path) (x : Port) : (s.setPort p x).port p = x :=
  PerPath.get_set_same _ _ _
@[simp] theorem State.setPort_port_other (s : State) (p q : Path) (x : Port) (h : q ≠ p) :
    (s.setPort p x).port q = s.port q :=
  PerPath.get_set_other _ _ _ _ h

end Sys2Proof.Machine
end

