-- ==== Sys2Proof/Laws/Frames.lean ====
section
/-! SUPPORT. What each shared operation leaves alone: one lemma per field it does not change. -/

namespace Sys2Proof.Machine

theorem State.foldl_keeps {α β : Type} (g : State → β) (l : List α) (f : State → α → State)
    (h : ∀ s x, g (f s x) = g s) (s : State) : g (l.foldl f s) = g s := by
  induction l generalizing s with
  | nil => rfl
  | cons x xs ih => simp [List.foldl, ih, h]

/-! ### `State.cmdSeek` -/

@[simp] theorem State.cmdSeek_mon (s : State) (d : Drive) (cyl : Nat) : (s.cmdSeek d cyl).mon = s.mon := rfl
@[simp] theorem State.cmdSeek_queues (s : State) (d : Drive) (cyl : Nat) : (s.cmdSeek d cyl).queues = s.queues := rfl
@[simp] theorem State.cmdSeek_scans (s : State) (d : Drive) (cyl : Nat) : (s.cmdSeek d cyl).scans = s.scans := rfl
@[simp] theorem State.cmdSeek_reserved (s : State) (d : Drive) (cyl : Nat) : (s.cmdSeek d cyl).reserved = s.reserved := rfl
@[simp] theorem State.cmdSeek_ports (s : State) (d : Drive) (cyl : Nat) : (s.cmdSeek d cyl).ports = s.ports := rfl
@[simp] theorem State.cmdSeek_gate (s : State) (d : Drive) (cyl : Nat) : (s.cmdSeek d cyl).gate = s.gate := rfl
@[simp] theorem State.cmdSeek_lastWrite (s : State) (d : Drive) (cyl : Nat) : (s.cmdSeek d cyl).lastWrite = s.lastWrite := rfl
@[simp] theorem State.cmdSeek_engine (s : State) (d : Drive) (cyl : Nat) : (s.cmdSeek d cyl).engine = s.engine := rfl
@[simp] theorem State.cmdSeek_walk (s : State) (d : Drive) (cyl : Nat) : (s.cmdSeek d cyl).walk = s.walk := rfl
@[simp] theorem State.cmdSeek_trackWalk (s : State) (d : Drive) (cyl : Nat) : (s.cmdSeek d cyl).trackWalk = s.trackWalk := rfl
@[simp] theorem State.cmdSeek_notes (s : State) (d : Drive) (cyl : Nat) : (s.cmdSeek d cyl).notes = s.notes := rfl
@[simp] theorem State.cmdSeek_watch (s : State) (d : Drive) (cyl : Nat) : (s.cmdSeek d cyl).watch = s.watch := rfl
@[simp] theorem State.cmdSeek_relocQ (s : State) (d : Drive) (cyl : Nat) : (s.cmdSeek d cyl).relocQ = s.relocQ := rfl
@[simp] theorem State.cmdSeek_reloc (s : State) (d : Drive) (cyl : Nat) : (s.cmdSeek d cyl).reloc = s.reloc := rfl
@[simp] theorem State.cmdSeek_buffer (s : State) (d : Drive) (cyl : Nat) : (s.cmdSeek d cyl).buffer = s.buffer := rfl
@[simp] theorem State.cmdSeek_map (s : State) (d : Drive) (cyl : Nat) : (s.cmdSeek d cyl).map = s.map := rfl
@[simp] theorem State.cmdSeek_lastRead (s : State) (d : Drive) (cyl : Nat) : (s.cmdSeek d cyl).lastRead = s.lastRead := rfl
@[simp] theorem State.cmdSeek_choices (s : State) (d : Drive) (cyl : Nat) : (s.cmdSeek d cyl).choices = s.choices := rfl

/-! ### `State.cmdRecalibrate` -/

@[simp] theorem State.cmdRecalibrate_mon (s : State) (d : Drive) : (s.cmdRecalibrate d).mon = s.mon := rfl
@[simp] theorem State.cmdRecalibrate_queues (s : State) (d : Drive) : (s.cmdRecalibrate d).queues = s.queues := rfl
@[simp] theorem State.cmdRecalibrate_scans (s : State) (d : Drive) : (s.cmdRecalibrate d).scans = s.scans := rfl
@[simp] theorem State.cmdRecalibrate_reserved (s : State) (d : Drive) : (s.cmdRecalibrate d).reserved = s.reserved := rfl
@[simp] theorem State.cmdRecalibrate_ports (s : State) (d : Drive) : (s.cmdRecalibrate d).ports = s.ports := rfl
@[simp] theorem State.cmdRecalibrate_gate (s : State) (d : Drive) : (s.cmdRecalibrate d).gate = s.gate := rfl
@[simp] theorem State.cmdRecalibrate_lastWrite (s : State) (d : Drive) : (s.cmdRecalibrate d).lastWrite = s.lastWrite := rfl
@[simp] theorem State.cmdRecalibrate_engine (s : State) (d : Drive) : (s.cmdRecalibrate d).engine = s.engine := rfl
@[simp] theorem State.cmdRecalibrate_walk (s : State) (d : Drive) : (s.cmdRecalibrate d).walk = s.walk := rfl
@[simp] theorem State.cmdRecalibrate_trackWalk (s : State) (d : Drive) : (s.cmdRecalibrate d).trackWalk = s.trackWalk := rfl
@[simp] theorem State.cmdRecalibrate_notes (s : State) (d : Drive) : (s.cmdRecalibrate d).notes = s.notes := rfl
@[simp] theorem State.cmdRecalibrate_watch (s : State) (d : Drive) : (s.cmdRecalibrate d).watch = s.watch := rfl
@[simp] theorem State.cmdRecalibrate_relocQ (s : State) (d : Drive) : (s.cmdRecalibrate d).relocQ = s.relocQ := rfl
@[simp] theorem State.cmdRecalibrate_reloc (s : State) (d : Drive) : (s.cmdRecalibrate d).reloc = s.reloc := rfl
@[simp] theorem State.cmdRecalibrate_buffer (s : State) (d : Drive) : (s.cmdRecalibrate d).buffer = s.buffer := rfl
@[simp] theorem State.cmdRecalibrate_map (s : State) (d : Drive) : (s.cmdRecalibrate d).map = s.map := rfl
@[simp] theorem State.cmdRecalibrate_lastRead (s : State) (d : Drive) : (s.cmdRecalibrate d).lastRead = s.lastRead := rfl
@[simp] theorem State.cmdRecalibrate_choices (s : State) (d : Drive) : (s.cmdRecalibrate d).choices = s.choices := rfl

/-! ### `State.cmdHead` -/

@[simp] theorem State.cmdHead_queues (s : State) (d : Drive) (h : Nat) : (s.cmdHead d h).queues = s.queues := rfl
@[simp] theorem State.cmdHead_scans (s : State) (d : Drive) (h : Nat) : (s.cmdHead d h).scans = s.scans := rfl
@[simp] theorem State.cmdHead_reserved (s : State) (d : Drive) (h : Nat) : (s.cmdHead d h).reserved = s.reserved := rfl
@[simp] theorem State.cmdHead_ports (s : State) (d : Drive) (h : Nat) : (s.cmdHead d h).ports = s.ports := rfl
@[simp] theorem State.cmdHead_gate (s : State) (d : Drive) (h : Nat) : (s.cmdHead d h).gate = s.gate := rfl
@[simp] theorem State.cmdHead_lastWrite (s : State) (d : Drive) (h : Nat) : (s.cmdHead d h).lastWrite = s.lastWrite := rfl
@[simp] theorem State.cmdHead_engine (s : State) (d : Drive) (h : Nat) : (s.cmdHead d h).engine = s.engine := rfl
@[simp] theorem State.cmdHead_walk (s : State) (d : Drive) (h : Nat) : (s.cmdHead d h).walk = s.walk := rfl
@[simp] theorem State.cmdHead_trackWalk (s : State) (d : Drive) (h : Nat) : (s.cmdHead d h).trackWalk = s.trackWalk := rfl
@[simp] theorem State.cmdHead_notes (s : State) (d : Drive) (h : Nat) : (s.cmdHead d h).notes = s.notes := rfl
@[simp] theorem State.cmdHead_watch (s : State) (d : Drive) (h : Nat) : (s.cmdHead d h).watch = s.watch := rfl
@[simp] theorem State.cmdHead_relocQ (s : State) (d : Drive) (h : Nat) : (s.cmdHead d h).relocQ = s.relocQ := rfl
@[simp] theorem State.cmdHead_reloc (s : State) (d : Drive) (h : Nat) : (s.cmdHead d h).reloc = s.reloc := rfl
@[simp] theorem State.cmdHead_buffer (s : State) (d : Drive) (h : Nat) : (s.cmdHead d h).buffer = s.buffer := rfl
@[simp] theorem State.cmdHead_map (s : State) (d : Drive) (h : Nat) : (s.cmdHead d h).map = s.map := rfl
@[simp] theorem State.cmdHead_lastRead (s : State) (d : Drive) (h : Nat) : (s.cmdHead d h).lastRead = s.lastRead := rfl
@[simp] theorem State.cmdHead_choices (s : State) (d : Drive) (h : Nat) : (s.cmdHead d h).choices = s.choices := rfl

/-! ### `State.cmdSettings` -/

@[simp] theorem State.cmdSettings_mon (s : State) (d : Drive) (o : Offset) (t : Strobe) : (s.cmdSettings d o t).mon = s.mon := rfl
@[simp] theorem State.cmdSettings_queues (s : State) (d : Drive) (o : Offset) (t : Strobe) : (s.cmdSettings d o t).queues = s.queues := rfl
@[simp] theorem State.cmdSettings_scans (s : State) (d : Drive) (o : Offset) (t : Strobe) : (s.cmdSettings d o t).scans = s.scans := rfl
@[simp] theorem State.cmdSettings_reserved (s : State) (d : Drive) (o : Offset) (t : Strobe) : (s.cmdSettings d o t).reserved = s.reserved := rfl
@[simp] theorem State.cmdSettings_ports (s : State) (d : Drive) (o : Offset) (t : Strobe) : (s.cmdSettings d o t).ports = s.ports := rfl
@[simp] theorem State.cmdSettings_gate (s : State) (d : Drive) (o : Offset) (t : Strobe) : (s.cmdSettings d o t).gate = s.gate := rfl
@[simp] theorem State.cmdSettings_lastWrite (s : State) (d : Drive) (o : Offset) (t : Strobe) : (s.cmdSettings d o t).lastWrite = s.lastWrite := rfl
@[simp] theorem State.cmdSettings_engine (s : State) (d : Drive) (o : Offset) (t : Strobe) : (s.cmdSettings d o t).engine = s.engine := rfl
@[simp] theorem State.cmdSettings_walk (s : State) (d : Drive) (o : Offset) (t : Strobe) : (s.cmdSettings d o t).walk = s.walk := rfl
@[simp] theorem State.cmdSettings_trackWalk (s : State) (d : Drive) (o : Offset) (t : Strobe) : (s.cmdSettings d o t).trackWalk = s.trackWalk := rfl
@[simp] theorem State.cmdSettings_notes (s : State) (d : Drive) (o : Offset) (t : Strobe) : (s.cmdSettings d o t).notes = s.notes := rfl
@[simp] theorem State.cmdSettings_watch (s : State) (d : Drive) (o : Offset) (t : Strobe) : (s.cmdSettings d o t).watch = s.watch := rfl
@[simp] theorem State.cmdSettings_relocQ (s : State) (d : Drive) (o : Offset) (t : Strobe) : (s.cmdSettings d o t).relocQ = s.relocQ := rfl
@[simp] theorem State.cmdSettings_reloc (s : State) (d : Drive) (o : Offset) (t : Strobe) : (s.cmdSettings d o t).reloc = s.reloc := rfl
@[simp] theorem State.cmdSettings_buffer (s : State) (d : Drive) (o : Offset) (t : Strobe) : (s.cmdSettings d o t).buffer = s.buffer := rfl
@[simp] theorem State.cmdSettings_map (s : State) (d : Drive) (o : Offset) (t : Strobe) : (s.cmdSettings d o t).map = s.map := rfl
@[simp] theorem State.cmdSettings_lastRead (s : State) (d : Drive) (o : Offset) (t : Strobe) : (s.cmdSettings d o t).lastRead = s.lastRead := rfl
@[simp] theorem State.cmdSettings_choices (s : State) (d : Drive) (o : Offset) (t : Strobe) : (s.cmdSettings d o t).choices = s.choices := rfl

/-! ### `State.cmdCentre` -/

@[simp] theorem State.cmdCentre_mon (s : State) (d : Drive) : (s.cmdCentre d).mon = s.mon := rfl
@[simp] theorem State.cmdCentre_queues (s : State) (d : Drive) : (s.cmdCentre d).queues = s.queues := rfl
@[simp] theorem State.cmdCentre_scans (s : State) (d : Drive) : (s.cmdCentre d).scans = s.scans := rfl
@[simp] theorem State.cmdCentre_reserved (s : State) (d : Drive) : (s.cmdCentre d).reserved = s.reserved := rfl
@[simp] theorem State.cmdCentre_ports (s : State) (d : Drive) : (s.cmdCentre d).ports = s.ports := rfl
@[simp] theorem State.cmdCentre_gate (s : State) (d : Drive) : (s.cmdCentre d).gate = s.gate := rfl
@[simp] theorem State.cmdCentre_lastWrite (s : State) (d : Drive) : (s.cmdCentre d).lastWrite = s.lastWrite := rfl
@[simp] theorem State.cmdCentre_engine (s : State) (d : Drive) : (s.cmdCentre d).engine = s.engine := rfl
@[simp] theorem State.cmdCentre_walk (s : State) (d : Drive) : (s.cmdCentre d).walk = s.walk := rfl
@[simp] theorem State.cmdCentre_trackWalk (s : State) (d : Drive) : (s.cmdCentre d).trackWalk = s.trackWalk := rfl
@[simp] theorem State.cmdCentre_notes (s : State) (d : Drive) : (s.cmdCentre d).notes = s.notes := rfl
@[simp] theorem State.cmdCentre_watch (s : State) (d : Drive) : (s.cmdCentre d).watch = s.watch := rfl
@[simp] theorem State.cmdCentre_relocQ (s : State) (d : Drive) : (s.cmdCentre d).relocQ = s.relocQ := rfl
@[simp] theorem State.cmdCentre_reloc (s : State) (d : Drive) : (s.cmdCentre d).reloc = s.reloc := rfl
@[simp] theorem State.cmdCentre_buffer (s : State) (d : Drive) : (s.cmdCentre d).buffer = s.buffer := rfl
@[simp] theorem State.cmdCentre_map (s : State) (d : Drive) : (s.cmdCentre d).map = s.map := rfl
@[simp] theorem State.cmdCentre_lastRead (s : State) (d : Drive) : (s.cmdCentre d).lastRead = s.lastRead := rfl
@[simp] theorem State.cmdCentre_choices (s : State) (d : Drive) : (s.cmdCentre d).choices = s.choices := rfl

/-! ### `State.cmdFaultClear` -/

@[simp] theorem State.cmdFaultClear_mon (s : State) (d : Drive) (gone : Bool) : (s.cmdFaultClear d gone).mon = s.mon := rfl
@[simp] theorem State.cmdFaultClear_queues (s : State) (d : Drive) (gone : Bool) : (s.cmdFaultClear d gone).queues = s.queues := rfl
@[simp] theorem State.cmdFaultClear_scans (s : State) (d : Drive) (gone : Bool) : (s.cmdFaultClear d gone).scans = s.scans := rfl
@[simp] theorem State.cmdFaultClear_reserved (s : State) (d : Drive) (gone : Bool) : (s.cmdFaultClear d gone).reserved = s.reserved := rfl
@[simp] theorem State.cmdFaultClear_ports (s : State) (d : Drive) (gone : Bool) : (s.cmdFaultClear d gone).ports = s.ports := rfl
@[simp] theorem State.cmdFaultClear_gate (s : State) (d : Drive) (gone : Bool) : (s.cmdFaultClear d gone).gate = s.gate := rfl
@[simp] theorem State.cmdFaultClear_lastWrite (s : State) (d : Drive) (gone : Bool) : (s.cmdFaultClear d gone).lastWrite = s.lastWrite := rfl
@[simp] theorem State.cmdFaultClear_engine (s : State) (d : Drive) (gone : Bool) : (s.cmdFaultClear d gone).engine = s.engine := rfl
@[simp] theorem State.cmdFaultClear_walk (s : State) (d : Drive) (gone : Bool) : (s.cmdFaultClear d gone).walk = s.walk := rfl
@[simp] theorem State.cmdFaultClear_trackWalk (s : State) (d : Drive) (gone : Bool) : (s.cmdFaultClear d gone).trackWalk = s.trackWalk := rfl
@[simp] theorem State.cmdFaultClear_notes (s : State) (d : Drive) (gone : Bool) : (s.cmdFaultClear d gone).notes = s.notes := rfl
@[simp] theorem State.cmdFaultClear_watch (s : State) (d : Drive) (gone : Bool) : (s.cmdFaultClear d gone).watch = s.watch := rfl
@[simp] theorem State.cmdFaultClear_relocQ (s : State) (d : Drive) (gone : Bool) : (s.cmdFaultClear d gone).relocQ = s.relocQ := rfl
@[simp] theorem State.cmdFaultClear_reloc (s : State) (d : Drive) (gone : Bool) : (s.cmdFaultClear d gone).reloc = s.reloc := rfl
@[simp] theorem State.cmdFaultClear_buffer (s : State) (d : Drive) (gone : Bool) : (s.cmdFaultClear d gone).buffer = s.buffer := rfl
@[simp] theorem State.cmdFaultClear_map (s : State) (d : Drive) (gone : Bool) : (s.cmdFaultClear d gone).map = s.map := rfl
@[simp] theorem State.cmdFaultClear_lastRead (s : State) (d : Drive) (gone : Bool) : (s.cmdFaultClear d gone).lastRead = s.lastRead := rfl
@[simp] theorem State.cmdFaultClear_choices (s : State) (d : Drive) (gone : Bool) : (s.cmdFaultClear d gone).choices = s.choices := rfl

/-! ### `State.raiseGate` -/

@[simp] theorem State.raiseGate_mon (s : State) (d : Drive) (k : GateKind) : (s.raiseGate d k).mon = s.mon := rfl
@[simp] theorem State.raiseGate_side (s : State) (d : Drive) (k : GateKind) : (s.raiseGate d k).side = s.side := rfl
@[simp] theorem State.raiseGate_queues (s : State) (d : Drive) (k : GateKind) : (s.raiseGate d k).queues = s.queues := rfl
@[simp] theorem State.raiseGate_scans (s : State) (d : Drive) (k : GateKind) : (s.raiseGate d k).scans = s.scans := rfl
@[simp] theorem State.raiseGate_reserved (s : State) (d : Drive) (k : GateKind) : (s.raiseGate d k).reserved = s.reserved := rfl
@[simp] theorem State.raiseGate_ports (s : State) (d : Drive) (k : GateKind) : (s.raiseGate d k).ports = s.ports := rfl
@[simp] theorem State.raiseGate_lastWrite (s : State) (d : Drive) (k : GateKind) : (s.raiseGate d k).lastWrite = s.lastWrite := rfl
@[simp] theorem State.raiseGate_engine (s : State) (d : Drive) (k : GateKind) : (s.raiseGate d k).engine = s.engine := rfl
@[simp] theorem State.raiseGate_walk (s : State) (d : Drive) (k : GateKind) : (s.raiseGate d k).walk = s.walk := rfl
@[simp] theorem State.raiseGate_trackWalk (s : State) (d : Drive) (k : GateKind) : (s.raiseGate d k).trackWalk = s.trackWalk := rfl
@[simp] theorem State.raiseGate_notes (s : State) (d : Drive) (k : GateKind) : (s.raiseGate d k).notes = s.notes := rfl
@[simp] theorem State.raiseGate_watch (s : State) (d : Drive) (k : GateKind) : (s.raiseGate d k).watch = s.watch := rfl
@[simp] theorem State.raiseGate_relocQ (s : State) (d : Drive) (k : GateKind) : (s.raiseGate d k).relocQ = s.relocQ := rfl
@[simp] theorem State.raiseGate_reloc (s : State) (d : Drive) (k : GateKind) : (s.raiseGate d k).reloc = s.reloc := rfl
@[simp] theorem State.raiseGate_buffer (s : State) (d : Drive) (k : GateKind) : (s.raiseGate d k).buffer = s.buffer := rfl
@[simp] theorem State.raiseGate_map (s : State) (d : Drive) (k : GateKind) : (s.raiseGate d k).map = s.map := rfl
@[simp] theorem State.raiseGate_lastRead (s : State) (d : Drive) (k : GateKind) : (s.raiseGate d k).lastRead = s.lastRead := rfl
@[simp] theorem State.raiseGate_choices (s : State) (d : Drive) (k : GateKind) : (s.raiseGate d k).choices = s.choices := rfl

/-! ### `State.dropGate` -/

@[simp] theorem State.dropGate_mon (s : State) (d : Drive) : (s.dropGate d).mon = s.mon := by
  unfold State.dropGate
  repeat' split
  all_goals simp
@[simp] theorem State.dropGate_side (s : State) (d : Drive) : (s.dropGate d).side = s.side := by
  unfold State.dropGate
  repeat' split
  all_goals simp
@[simp] theorem State.dropGate_queues (s : State) (d : Drive) : (s.dropGate d).queues = s.queues := by
  unfold State.dropGate
  repeat' split
  all_goals simp
@[simp] theorem State.dropGate_scans (s : State) (d : Drive) : (s.dropGate d).scans = s.scans := by
  unfold State.dropGate
  repeat' split
  all_goals simp
@[simp] theorem State.dropGate_reserved (s : State) (d : Drive) : (s.dropGate d).reserved = s.reserved := by
  unfold State.dropGate
  repeat' split
  all_goals simp
@[simp] theorem State.dropGate_ports (s : State) (d : Drive) : (s.dropGate d).ports = s.ports := by
  unfold State.dropGate
  repeat' split
  all_goals simp
@[simp] theorem State.dropGate_lastWrite (s : State) (d : Drive) : (s.dropGate d).lastWrite = s.lastWrite := by
  unfold State.dropGate
  repeat' split
  all_goals simp
@[simp] theorem State.dropGate_engine (s : State) (d : Drive) : (s.dropGate d).engine = s.engine := by
  unfold State.dropGate
  repeat' split
  all_goals simp
@[simp] theorem State.dropGate_walk (s : State) (d : Drive) : (s.dropGate d).walk = s.walk := by
  unfold State.dropGate
  repeat' split
  all_goals simp
@[simp] theorem State.dropGate_trackWalk (s : State) (d : Drive) : (s.dropGate d).trackWalk = s.trackWalk := by
  unfold State.dropGate
  repeat' split
  all_goals simp
@[simp] theorem State.dropGate_notes (s : State) (d : Drive) : (s.dropGate d).notes = s.notes := by
  unfold State.dropGate
  repeat' split
  all_goals simp
@[simp] theorem State.dropGate_watch (s : State) (d : Drive) : (s.dropGate d).watch = s.watch := by
  unfold State.dropGate
  repeat' split
  all_goals simp
@[simp] theorem State.dropGate_relocQ (s : State) (d : Drive) : (s.dropGate d).relocQ = s.relocQ := by
  unfold State.dropGate
  repeat' split
  all_goals simp
@[simp] theorem State.dropGate_reloc (s : State) (d : Drive) : (s.dropGate d).reloc = s.reloc := by
  unfold State.dropGate
  repeat' split
  all_goals simp
@[simp] theorem State.dropGate_buffer (s : State) (d : Drive) : (s.dropGate d).buffer = s.buffer := by
  unfold State.dropGate
  repeat' split
  all_goals simp
@[simp] theorem State.dropGate_map (s : State) (d : Drive) : (s.dropGate d).map = s.map := by
  unfold State.dropGate
  repeat' split
  all_goals simp
@[simp] theorem State.dropGate_lastRead (s : State) (d : Drive) : (s.dropGate d).lastRead = s.lastRead := by
  unfold State.dropGate
  repeat' split
  all_goals simp
@[simp] theorem State.dropGate_choices (s : State) (d : Drive) : (s.dropGate d).choices = s.choices := by
  unfold State.dropGate
  repeat' split
  all_goals simp

/-! ### `State.setDriveState` -/

@[simp] theorem State.setDriveState_side (s : State) (d : Drive) (st : DriveState) : (s.setDriveState d st).side = s.side := rfl
@[simp] theorem State.setDriveState_queues (s : State) (d : Drive) (st : DriveState) : (s.setDriveState d st).queues = s.queues := rfl
@[simp] theorem State.setDriveState_scans (s : State) (d : Drive) (st : DriveState) : (s.setDriveState d st).scans = s.scans := rfl
@[simp] theorem State.setDriveState_reserved (s : State) (d : Drive) (st : DriveState) : (s.setDriveState d st).reserved = s.reserved := rfl
@[simp] theorem State.setDriveState_ports (s : State) (d : Drive) (st : DriveState) : (s.setDriveState d st).ports = s.ports := rfl
@[simp] theorem State.setDriveState_gate (s : State) (d : Drive) (st : DriveState) : (s.setDriveState d st).gate = s.gate := rfl
@[simp] theorem State.setDriveState_lastWrite (s : State) (d : Drive) (st : DriveState) : (s.setDriveState d st).lastWrite = s.lastWrite := rfl
@[simp] theorem State.setDriveState_engine (s : State) (d : Drive) (st : DriveState) : (s.setDriveState d st).engine = s.engine := rfl
@[simp] theorem State.setDriveState_walk (s : State) (d : Drive) (st : DriveState) : (s.setDriveState d st).walk = s.walk := rfl
@[simp] theorem State.setDriveState_trackWalk (s : State) (d : Drive) (st : DriveState) : (s.setDriveState d st).trackWalk = s.trackWalk := rfl
@[simp] theorem State.setDriveState_notes (s : State) (d : Drive) (st : DriveState) : (s.setDriveState d st).notes = s.notes := rfl
@[simp] theorem State.setDriveState_watch (s : State) (d : Drive) (st : DriveState) : (s.setDriveState d st).watch = s.watch := rfl
@[simp] theorem State.setDriveState_relocQ (s : State) (d : Drive) (st : DriveState) : (s.setDriveState d st).relocQ = s.relocQ := rfl
@[simp] theorem State.setDriveState_reloc (s : State) (d : Drive) (st : DriveState) : (s.setDriveState d st).reloc = s.reloc := rfl
@[simp] theorem State.setDriveState_buffer (s : State) (d : Drive) (st : DriveState) : (s.setDriveState d st).buffer = s.buffer := rfl
@[simp] theorem State.setDriveState_map (s : State) (d : Drive) (st : DriveState) : (s.setDriveState d st).map = s.map := rfl
@[simp] theorem State.setDriveState_lastRead (s : State) (d : Drive) (st : DriveState) : (s.setDriveState d st).lastRead = s.lastRead := rfl
@[simp] theorem State.setDriveState_choices (s : State) (d : Drive) (st : DriveState) : (s.setDriveState d st).choices = s.choices := rfl

/-! ### `State.enterReady` -/

@[simp] theorem State.enterReady_queues (s : State) (d : Drive) : (s.enterReady d).queues = s.queues := rfl
@[simp] theorem State.enterReady_scans (s : State) (d : Drive) : (s.enterReady d).scans = s.scans := rfl
@[simp] theorem State.enterReady_reserved (s : State) (d : Drive) : (s.enterReady d).reserved = s.reserved := rfl
@[simp] theorem State.enterReady_ports (s : State) (d : Drive) : (s.enterReady d).ports = s.ports := rfl
@[simp] theorem State.enterReady_gate (s : State) (d : Drive) : (s.enterReady d).gate = s.gate := rfl
@[simp] theorem State.enterReady_lastWrite (s : State) (d : Drive) : (s.enterReady d).lastWrite = s.lastWrite := rfl
@[simp] theorem State.enterReady_engine (s : State) (d : Drive) : (s.enterReady d).engine = s.engine := rfl
@[simp] theorem State.enterReady_walk (s : State) (d : Drive) : (s.enterReady d).walk = s.walk := rfl
@[simp] theorem State.enterReady_trackWalk (s : State) (d : Drive) : (s.enterReady d).trackWalk = s.trackWalk := rfl
@[simp] theorem State.enterReady_notes (s : State) (d : Drive) : (s.enterReady d).notes = s.notes := rfl
@[simp] theorem State.enterReady_watch (s : State) (d : Drive) : (s.enterReady d).watch = s.watch := rfl
@[simp] theorem State.enterReady_relocQ (s : State) (d : Drive) : (s.enterReady d).relocQ = s.relocQ := rfl
@[simp] theorem State.enterReady_reloc (s : State) (d : Drive) : (s.enterReady d).reloc = s.reloc := rfl
@[simp] theorem State.enterReady_buffer (s : State) (d : Drive) : (s.enterReady d).buffer = s.buffer := rfl
@[simp] theorem State.enterReady_map (s : State) (d : Drive) : (s.enterReady d).map = s.map := rfl
@[simp] theorem State.enterReady_lastRead (s : State) (d : Drive) : (s.enterReady d).lastRead = s.lastRead := rfl
@[simp] theorem State.enterReady_choices (s : State) (d : Drive) : (s.enterReady d).choices = s.choices := rfl

/-! ### `State.setMarkCheck` -/

@[simp] theorem State.setMarkCheck_side (s : State) (d : Drive) (c : MarkCheck) : (s.setMarkCheck d c).side = s.side := rfl
@[simp] theorem State.setMarkCheck_queues (s : State) (d : Drive) (c : MarkCheck) : (s.setMarkCheck d c).queues = s.queues := rfl
@[simp] theorem State.setMarkCheck_scans (s : State) (d : Drive) (c : MarkCheck) : (s.setMarkCheck d c).scans = s.scans := rfl
@[simp] theorem State.setMarkCheck_reserved (s : State) (d : Drive) (c : MarkCheck) : (s.setMarkCheck d c).reserved = s.reserved := rfl
@[simp] theorem State.setMarkCheck_ports (s : State) (d : Drive) (c : MarkCheck) : (s.setMarkCheck d c).ports = s.ports := rfl
@[simp] theorem State.setMarkCheck_gate (s : State) (d : Drive) (c : MarkCheck) : (s.setMarkCheck d c).gate = s.gate := rfl
@[simp] theorem State.setMarkCheck_lastWrite (s : State) (d : Drive) (c : MarkCheck) : (s.setMarkCheck d c).lastWrite = s.lastWrite := rfl
@[simp] theorem State.setMarkCheck_engine (s : State) (d : Drive) (c : MarkCheck) : (s.setMarkCheck d c).engine = s.engine := rfl
@[simp] theorem State.setMarkCheck_walk (s : State) (d : Drive) (c : MarkCheck) : (s.setMarkCheck d c).walk = s.walk := rfl
@[simp] theorem State.setMarkCheck_trackWalk (s : State) (d : Drive) (c : MarkCheck) : (s.setMarkCheck d c).trackWalk = s.trackWalk := rfl
@[simp] theorem State.setMarkCheck_notes (s : State) (d : Drive) (c : MarkCheck) : (s.setMarkCheck d c).notes = s.notes := rfl
@[simp] theorem State.setMarkCheck_watch (s : State) (d : Drive) (c : MarkCheck) : (s.setMarkCheck d c).watch = s.watch := rfl
@[simp] theorem State.setMarkCheck_relocQ (s : State) (d : Drive) (c : MarkCheck) : (s.setMarkCheck d c).relocQ = s.relocQ := rfl
@[simp] theorem State.setMarkCheck_reloc (s : State) (d : Drive) (c : MarkCheck) : (s.setMarkCheck d c).reloc = s.reloc := rfl
@[simp] theorem State.setMarkCheck_buffer (s : State) (d : Drive) (c : MarkCheck) : (s.setMarkCheck d c).buffer = s.buffer := rfl
@[simp] theorem State.setMarkCheck_map (s : State) (d : Drive) (c : MarkCheck) : (s.setMarkCheck d c).map = s.map := rfl
@[simp] theorem State.setMarkCheck_lastRead (s : State) (d : Drive) (c : MarkCheck) : (s.setMarkCheck d c).lastRead = s.lastRead := rfl
@[simp] theorem State.setMarkCheck_choices (s : State) (d : Drive) (c : MarkCheck) : (s.setMarkCheck d c).choices = s.choices := rfl

/-! ### `State.startRecal` -/

@[simp] theorem State.startRecal_queues (s : State) (d : Drive) (why : Recal) (c : MarkCheck) : (s.startRecal d why c).queues = s.queues := rfl
@[simp] theorem State.startRecal_scans (s : State) (d : Drive) (why : Recal) (c : MarkCheck) : (s.startRecal d why c).scans = s.scans := rfl
@[simp] theorem State.startRecal_reserved (s : State) (d : Drive) (why : Recal) (c : MarkCheck) : (s.startRecal d why c).reserved = s.reserved := rfl
@[simp] theorem State.startRecal_ports (s : State) (d : Drive) (why : Recal) (c : MarkCheck) : (s.startRecal d why c).ports = s.ports := rfl
@[simp] theorem State.startRecal_gate (s : State) (d : Drive) (why : Recal) (c : MarkCheck) : (s.startRecal d why c).gate = s.gate := rfl
@[simp] theorem State.startRecal_lastWrite (s : State) (d : Drive) (why : Recal) (c : MarkCheck) : (s.startRecal d why c).lastWrite = s.lastWrite := rfl
@[simp] theorem State.startRecal_engine (s : State) (d : Drive) (why : Recal) (c : MarkCheck) : (s.startRecal d why c).engine = s.engine := rfl
@[simp] theorem State.startRecal_walk (s : State) (d : Drive) (why : Recal) (c : MarkCheck) : (s.startRecal d why c).walk = s.walk := rfl
@[simp] theorem State.startRecal_trackWalk (s : State) (d : Drive) (why : Recal) (c : MarkCheck) : (s.startRecal d why c).trackWalk = s.trackWalk := rfl
@[simp] theorem State.startRecal_notes (s : State) (d : Drive) (why : Recal) (c : MarkCheck) : (s.startRecal d why c).notes = s.notes := rfl
@[simp] theorem State.startRecal_watch (s : State) (d : Drive) (why : Recal) (c : MarkCheck) : (s.startRecal d why c).watch = s.watch := rfl
@[simp] theorem State.startRecal_relocQ (s : State) (d : Drive) (why : Recal) (c : MarkCheck) : (s.startRecal d why c).relocQ = s.relocQ := rfl
@[simp] theorem State.startRecal_reloc (s : State) (d : Drive) (why : Recal) (c : MarkCheck) : (s.startRecal d why c).reloc = s.reloc := rfl
@[simp] theorem State.startRecal_buffer (s : State) (d : Drive) (why : Recal) (c : MarkCheck) : (s.startRecal d why c).buffer = s.buffer := rfl
@[simp] theorem State.startRecal_map (s : State) (d : Drive) (why : Recal) (c : MarkCheck) : (s.startRecal d why c).map = s.map := rfl
@[simp] theorem State.startRecal_lastRead (s : State) (d : Drive) (why : Recal) (c : MarkCheck) : (s.startRecal d why c).lastRead = s.lastRead := rfl
@[simp] theorem State.startRecal_choices (s : State) (d : Drive) (why : Recal) (c : MarkCheck) : (s.startRecal d why c).choices = s.choices := rfl

/-! ### `State.askSeek` -/

@[simp] theorem State.askSeek_queues (s : State) (d : Drive) (t : Track) : (s.askSeek d t).queues = s.queues := by
  unfold State.askSeek; dsimp only; split <;> simp
@[simp] theorem State.askSeek_scans (s : State) (d : Drive) (t : Track) : (s.askSeek d t).scans = s.scans := by
  unfold State.askSeek; dsimp only; split <;> simp
@[simp] theorem State.askSeek_reserved (s : State) (d : Drive) (t : Track) : (s.askSeek d t).reserved = s.reserved := by
  unfold State.askSeek; dsimp only; split <;> simp
@[simp] theorem State.askSeek_ports (s : State) (d : Drive) (t : Track) : (s.askSeek d t).ports = s.ports := by
  unfold State.askSeek; dsimp only; split <;> simp
@[simp] theorem State.askSeek_gate (s : State) (d : Drive) (t : Track) : (s.askSeek d t).gate = s.gate := by
  unfold State.askSeek; dsimp only; split <;> simp
@[simp] theorem State.askSeek_lastWrite (s : State) (d : Drive) (t : Track) : (s.askSeek d t).lastWrite = s.lastWrite := by
  unfold State.askSeek; dsimp only; split <;> simp
@[simp] theorem State.askSeek_engine (s : State) (d : Drive) (t : Track) : (s.askSeek d t).engine = s.engine := by
  unfold State.askSeek; dsimp only; split <;> simp
@[simp] theorem State.askSeek_walk (s : State) (d : Drive) (t : Track) : (s.askSeek d t).walk = s.walk := by
  unfold State.askSeek; dsimp only; split <;> simp
@[simp] theorem State.askSeek_trackWalk (s : State) (d : Drive) (t : Track) : (s.askSeek d t).trackWalk = s.trackWalk := by
  unfold State.askSeek; dsimp only; split <;> simp
@[simp] theorem State.askSeek_notes (s : State) (d : Drive) (t : Track) : (s.askSeek d t).notes = s.notes := by
  unfold State.askSeek; dsimp only; split <;> simp
@[simp] theorem State.askSeek_watch (s : State) (d : Drive) (t : Track) : (s.askSeek d t).watch = s.watch := by
  unfold State.askSeek; dsimp only; split <;> simp
@[simp] theorem State.askSeek_relocQ (s : State) (d : Drive) (t : Track) : (s.askSeek d t).relocQ = s.relocQ := by
  unfold State.askSeek; dsimp only; split <;> simp
@[simp] theorem State.askSeek_reloc (s : State) (d : Drive) (t : Track) : (s.askSeek d t).reloc = s.reloc := by
  unfold State.askSeek; dsimp only; split <;> simp
@[simp] theorem State.askSeek_buffer (s : State) (d : Drive) (t : Track) : (s.askSeek d t).buffer = s.buffer := by
  unfold State.askSeek; dsimp only; split <;> simp
@[simp] theorem State.askSeek_map (s : State) (d : Drive) (t : Track) : (s.askSeek d t).map = s.map := by
  unfold State.askSeek; dsimp only; split <;> simp
@[simp] theorem State.askSeek_lastRead (s : State) (d : Drive) (t : Track) : (s.askSeek d t).lastRead = s.lastRead := by
  unfold State.askSeek; dsimp only; split <;> simp
@[simp] theorem State.askSeek_choices (s : State) (d : Drive) (t : Track) : (s.askSeek d t).choices = s.choices := by
  unfold State.askSeek; dsimp only; split <;> simp

/-! ### `State.clearIdle` -/

@[simp] theorem State.clearIdle_mon (s : State) (d : Drive) : (s.clearIdle d).mon = s.mon := rfl
@[simp] theorem State.clearIdle_side (s : State) (d : Drive) : (s.clearIdle d).side = s.side := rfl
@[simp] theorem State.clearIdle_queues (s : State) (d : Drive) : (s.clearIdle d).queues = s.queues := rfl
@[simp] theorem State.clearIdle_reserved (s : State) (d : Drive) : (s.clearIdle d).reserved = s.reserved := rfl
@[simp] theorem State.clearIdle_ports (s : State) (d : Drive) : (s.clearIdle d).ports = s.ports := rfl
@[simp] theorem State.clearIdle_gate (s : State) (d : Drive) : (s.clearIdle d).gate = s.gate := rfl
@[simp] theorem State.clearIdle_lastWrite (s : State) (d : Drive) : (s.clearIdle d).lastWrite = s.lastWrite := rfl
@[simp] theorem State.clearIdle_engine (s : State) (d : Drive) : (s.clearIdle d).engine = s.engine := rfl
@[simp] theorem State.clearIdle_walk (s : State) (d : Drive) : (s.clearIdle d).walk = s.walk := rfl
@[simp] theorem State.clearIdle_trackWalk (s : State) (d : Drive) : (s.clearIdle d).trackWalk = s.trackWalk := rfl
@[simp] theorem State.clearIdle_notes (s : State) (d : Drive) : (s.clearIdle d).notes = s.notes := rfl
@[simp] theorem State.clearIdle_watch (s : State) (d : Drive) : (s.clearIdle d).watch = s.watch := rfl
@[simp] theorem State.clearIdle_relocQ (s : State) (d : Drive) : (s.clearIdle d).relocQ = s.relocQ := rfl
@[simp] theorem State.clearIdle_reloc (s : State) (d : Drive) : (s.clearIdle d).reloc = s.reloc := rfl
@[simp] theorem State.clearIdle_buffer (s : State) (d : Drive) : (s.clearIdle d).buffer = s.buffer := rfl
@[simp] theorem State.clearIdle_map (s : State) (d : Drive) : (s.clearIdle d).map = s.map := rfl
@[simp] theorem State.clearIdle_lastRead (s : State) (d : Drive) : (s.clearIdle d).lastRead = s.lastRead := rfl
@[simp] theorem State.clearIdle_choices (s : State) (d : Drive) : (s.clearIdle d).choices = s.choices := rfl

/-! ### `State.send` -/

@[simp] theorem State.send_mon (s : State) (p : Path) (fs : List Frame) : (s.send p fs).mon = s.mon := rfl
@[simp] theorem State.send_side (s : State) (p : Path) (fs : List Frame) : (s.send p fs).side = s.side := rfl
@[simp] theorem State.send_queues (s : State) (p : Path) (fs : List Frame) : (s.send p fs).queues = s.queues := rfl
@[simp] theorem State.send_scans (s : State) (p : Path) (fs : List Frame) : (s.send p fs).scans = s.scans := rfl
@[simp] theorem State.send_reserved (s : State) (p : Path) (fs : List Frame) : (s.send p fs).reserved = s.reserved := rfl
@[simp] theorem State.send_gate (s : State) (p : Path) (fs : List Frame) : (s.send p fs).gate = s.gate := rfl
@[simp] theorem State.send_lastWrite (s : State) (p : Path) (fs : List Frame) : (s.send p fs).lastWrite = s.lastWrite := rfl
@[simp] theorem State.send_engine (s : State) (p : Path) (fs : List Frame) : (s.send p fs).engine = s.engine := rfl
@[simp] theorem State.send_walk (s : State) (p : Path) (fs : List Frame) : (s.send p fs).walk = s.walk := rfl
@[simp] theorem State.send_trackWalk (s : State) (p : Path) (fs : List Frame) : (s.send p fs).trackWalk = s.trackWalk := rfl
@[simp] theorem State.send_notes (s : State) (p : Path) (fs : List Frame) : (s.send p fs).notes = s.notes := rfl
@[simp] theorem State.send_watch (s : State) (p : Path) (fs : List Frame) : (s.send p fs).watch = s.watch := rfl
@[simp] theorem State.send_relocQ (s : State) (p : Path) (fs : List Frame) : (s.send p fs).relocQ = s.relocQ := rfl
@[simp] theorem State.send_reloc (s : State) (p : Path) (fs : List Frame) : (s.send p fs).reloc = s.reloc := rfl
@[simp] theorem State.send_buffer (s : State) (p : Path) (fs : List Frame) : (s.send p fs).buffer = s.buffer := rfl
@[simp] theorem State.send_map (s : State) (p : Path) (fs : List Frame) : (s.send p fs).map = s.map := rfl
@[simp] theorem State.send_lastRead (s : State) (p : Path) (fs : List Frame) : (s.send p fs).lastRead = s.lastRead := rfl
@[simp] theorem State.send_choices (s : State) (p : Path) (fs : List Frame) : (s.send p fs).choices = s.choices := rfl

/-! ### `State.freeLink` -/

@[simp] theorem State.freeLink_mon (s : State) (p : Path) : (s.freeLink p).mon = s.mon := rfl
@[simp] theorem State.freeLink_side (s : State) (p : Path) : (s.freeLink p).side = s.side := rfl
@[simp] theorem State.freeLink_queues (s : State) (p : Path) : (s.freeLink p).queues = s.queues := rfl
@[simp] theorem State.freeLink_scans (s : State) (p : Path) : (s.freeLink p).scans = s.scans := rfl
@[simp] theorem State.freeLink_reserved (s : State) (p : Path) : (s.freeLink p).reserved = s.reserved := rfl
@[simp] theorem State.freeLink_gate (s : State) (p : Path) : (s.freeLink p).gate = s.gate := rfl
@[simp] theorem State.freeLink_lastWrite (s : State) (p : Path) : (s.freeLink p).lastWrite = s.lastWrite := rfl
@[simp] theorem State.freeLink_engine (s : State) (p : Path) : (s.freeLink p).engine = s.engine := rfl
@[simp] theorem State.freeLink_walk (s : State) (p : Path) : (s.freeLink p).walk = s.walk := rfl
@[simp] theorem State.freeLink_trackWalk (s : State) (p : Path) : (s.freeLink p).trackWalk = s.trackWalk := rfl
@[simp] theorem State.freeLink_notes (s : State) (p : Path) : (s.freeLink p).notes = s.notes := rfl
@[simp] theorem State.freeLink_watch (s : State) (p : Path) : (s.freeLink p).watch = s.watch := rfl
@[simp] theorem State.freeLink_relocQ (s : State) (p : Path) : (s.freeLink p).relocQ = s.relocQ := rfl
@[simp] theorem State.freeLink_reloc (s : State) (p : Path) : (s.freeLink p).reloc = s.reloc := rfl
@[simp] theorem State.freeLink_buffer (s : State) (p : Path) : (s.freeLink p).buffer = s.buffer := rfl
@[simp] theorem State.freeLink_map (s : State) (p : Path) : (s.freeLink p).map = s.map := rfl
@[simp] theorem State.freeLink_lastRead (s : State) (p : Path) : (s.freeLink p).lastRead = s.lastRead := rfl
@[simp] theorem State.freeLink_choices (s : State) (p : Path) : (s.freeLink p).choices = s.choices := rfl

/-! ### `State.setTag` -/

@[simp] theorem State.setTag_mon (s : State) (p : Path) (t : Tag) (x : TagSlot) : (s.setTag p t x).mon = s.mon := rfl
@[simp] theorem State.setTag_side (s : State) (p : Path) (t : Tag) (x : TagSlot) : (s.setTag p t x).side = s.side := rfl
@[simp] theorem State.setTag_queues (s : State) (p : Path) (t : Tag) (x : TagSlot) : (s.setTag p t x).queues = s.queues := rfl
@[simp] theorem State.setTag_scans (s : State) (p : Path) (t : Tag) (x : TagSlot) : (s.setTag p t x).scans = s.scans := rfl
@[simp] theorem State.setTag_reserved (s : State) (p : Path) (t : Tag) (x : TagSlot) : (s.setTag p t x).reserved = s.reserved := rfl
@[simp] theorem State.setTag_gate (s : State) (p : Path) (t : Tag) (x : TagSlot) : (s.setTag p t x).gate = s.gate := rfl
@[simp] theorem State.setTag_lastWrite (s : State) (p : Path) (t : Tag) (x : TagSlot) : (s.setTag p t x).lastWrite = s.lastWrite := rfl
@[simp] theorem State.setTag_engine (s : State) (p : Path) (t : Tag) (x : TagSlot) : (s.setTag p t x).engine = s.engine := rfl
@[simp] theorem State.setTag_walk (s : State) (p : Path) (t : Tag) (x : TagSlot) : (s.setTag p t x).walk = s.walk := rfl
@[simp] theorem State.setTag_trackWalk (s : State) (p : Path) (t : Tag) (x : TagSlot) : (s.setTag p t x).trackWalk = s.trackWalk := rfl
@[simp] theorem State.setTag_notes (s : State) (p : Path) (t : Tag) (x : TagSlot) : (s.setTag p t x).notes = s.notes := rfl
@[simp] theorem State.setTag_watch (s : State) (p : Path) (t : Tag) (x : TagSlot) : (s.setTag p t x).watch = s.watch := rfl
@[simp] theorem State.setTag_relocQ (s : State) (p : Path) (t : Tag) (x : TagSlot) : (s.setTag p t x).relocQ = s.relocQ := rfl
@[simp] theorem State.setTag_reloc (s : State) (p : Path) (t : Tag) (x : TagSlot) : (s.setTag p t x).reloc = s.reloc := rfl
@[simp] theorem State.setTag_buffer (s : State) (p : Path) (t : Tag) (x : TagSlot) : (s.setTag p t x).buffer = s.buffer := rfl
@[simp] theorem State.setTag_map (s : State) (p : Path) (t : Tag) (x : TagSlot) : (s.setTag p t x).map = s.map := rfl
@[simp] theorem State.setTag_lastRead (s : State) (p : Path) (t : Tag) (x : TagSlot) : (s.setTag p t x).lastRead = s.lastRead := rfl
@[simp] theorem State.setTag_choices (s : State) (p : Path) (t : Tag) (x : TagSlot) : (s.setTag p t x).choices = s.choices := rfl

/-! ### `State.updNote` -/

@[simp] theorem State.updNote_mon (s : State) (p : Path) (t : Tag) (f : Note → Note) : (s.updNote p t f).mon = s.mon := by
  unfold State.updNote; split <;> simp
@[simp] theorem State.updNote_side (s : State) (p : Path) (t : Tag) (f : Note → Note) : (s.updNote p t f).side = s.side := by
  unfold State.updNote; split <;> simp
@[simp] theorem State.updNote_queues (s : State) (p : Path) (t : Tag) (f : Note → Note) : (s.updNote p t f).queues = s.queues := by
  unfold State.updNote; split <;> simp
@[simp] theorem State.updNote_scans (s : State) (p : Path) (t : Tag) (f : Note → Note) : (s.updNote p t f).scans = s.scans := by
  unfold State.updNote; split <;> simp
@[simp] theorem State.updNote_reserved (s : State) (p : Path) (t : Tag) (f : Note → Note) : (s.updNote p t f).reserved = s.reserved := by
  unfold State.updNote; split <;> simp
@[simp] theorem State.updNote_ports (s : State) (p : Path) (t : Tag) (f : Note → Note) : (s.updNote p t f).ports = s.ports := by
  unfold State.updNote; split <;> simp
@[simp] theorem State.updNote_gate (s : State) (p : Path) (t : Tag) (f : Note → Note) : (s.updNote p t f).gate = s.gate := by
  unfold State.updNote; split <;> simp
@[simp] theorem State.updNote_lastWrite (s : State) (p : Path) (t : Tag) (f : Note → Note) : (s.updNote p t f).lastWrite = s.lastWrite := by
  unfold State.updNote; split <;> simp
@[simp] theorem State.updNote_engine (s : State) (p : Path) (t : Tag) (f : Note → Note) : (s.updNote p t f).engine = s.engine := by
  unfold State.updNote; split <;> simp
@[simp] theorem State.updNote_walk (s : State) (p : Path) (t : Tag) (f : Note → Note) : (s.updNote p t f).walk = s.walk := by
  unfold State.updNote; split <;> simp
@[simp] theorem State.updNote_trackWalk (s : State) (p : Path) (t : Tag) (f : Note → Note) : (s.updNote p t f).trackWalk = s.trackWalk := by
  unfold State.updNote; split <;> simp
@[simp] theorem State.updNote_watch (s : State) (p : Path) (t : Tag) (f : Note → Note) : (s.updNote p t f).watch = s.watch := by
  unfold State.updNote; split <;> simp
@[simp] theorem State.updNote_relocQ (s : State) (p : Path) (t : Tag) (f : Note → Note) : (s.updNote p t f).relocQ = s.relocQ := by
  unfold State.updNote; split <;> simp
@[simp] theorem State.updNote_reloc (s : State) (p : Path) (t : Tag) (f : Note → Note) : (s.updNote p t f).reloc = s.reloc := by
  unfold State.updNote; split <;> simp
@[simp] theorem State.updNote_buffer (s : State) (p : Path) (t : Tag) (f : Note → Note) : (s.updNote p t f).buffer = s.buffer := by
  unfold State.updNote; split <;> simp
@[simp] theorem State.updNote_map (s : State) (p : Path) (t : Tag) (f : Note → Note) : (s.updNote p t f).map = s.map := by
  unfold State.updNote; split <;> simp
@[simp] theorem State.updNote_lastRead (s : State) (p : Path) (t : Tag) (f : Note → Note) : (s.updNote p t f).lastRead = s.lastRead := by
  unfold State.updNote; split <;> simp
@[simp] theorem State.updNote_choices (s : State) (p : Path) (t : Tag) (f : Note → Note) : (s.updNote p t f).choices = s.choices := by
  unfold State.updNote; split <;> simp

/-! ### `State.dropNote` -/

@[simp] theorem State.dropNote_mon (s : State) (p : Path) (t : Tag) : (s.dropNote p t).mon = s.mon := rfl
@[simp] theorem State.dropNote_side (s : State) (p : Path) (t : Tag) : (s.dropNote p t).side = s.side := rfl
@[simp] theorem State.dropNote_queues (s : State) (p : Path) (t : Tag) : (s.dropNote p t).queues = s.queues := rfl
@[simp] theorem State.dropNote_scans (s : State) (p : Path) (t : Tag) : (s.dropNote p t).scans = s.scans := rfl
@[simp] theorem State.dropNote_reserved (s : State) (p : Path) (t : Tag) : (s.dropNote p t).reserved = s.reserved := rfl
@[simp] theorem State.dropNote_ports (s : State) (p : Path) (t : Tag) : (s.dropNote p t).ports = s.ports := rfl
@[simp] theorem State.dropNote_gate (s : State) (p : Path) (t : Tag) : (s.dropNote p t).gate = s.gate := rfl
@[simp] theorem State.dropNote_lastWrite (s : State) (p : Path) (t : Tag) : (s.dropNote p t).lastWrite = s.lastWrite := rfl
@[simp] theorem State.dropNote_engine (s : State) (p : Path) (t : Tag) : (s.dropNote p t).engine = s.engine := rfl
@[simp] theorem State.dropNote_walk (s : State) (p : Path) (t : Tag) : (s.dropNote p t).walk = s.walk := rfl
@[simp] theorem State.dropNote_trackWalk (s : State) (p : Path) (t : Tag) : (s.dropNote p t).trackWalk = s.trackWalk := rfl
@[simp] theorem State.dropNote_watch (s : State) (p : Path) (t : Tag) : (s.dropNote p t).watch = s.watch := rfl
@[simp] theorem State.dropNote_relocQ (s : State) (p : Path) (t : Tag) : (s.dropNote p t).relocQ = s.relocQ := rfl
@[simp] theorem State.dropNote_reloc (s : State) (p : Path) (t : Tag) : (s.dropNote p t).reloc = s.reloc := rfl
@[simp] theorem State.dropNote_buffer (s : State) (p : Path) (t : Tag) : (s.dropNote p t).buffer = s.buffer := rfl
@[simp] theorem State.dropNote_map (s : State) (p : Path) (t : Tag) : (s.dropNote p t).map = s.map := rfl
@[simp] theorem State.dropNote_lastRead (s : State) (p : Path) (t : Tag) : (s.dropNote p t).lastRead = s.lastRead := rfl
@[simp] theorem State.dropNote_choices (s : State) (p : Path) (t : Tag) : (s.dropNote p t).choices = s.choices := rfl

/-! ### `State.raise` -/

@[simp] theorem State.raise_mon (s : State) (n : Notice) (p : Path) : (s.raise n p).mon = s.mon := rfl
@[simp] theorem State.raise_side (s : State) (n : Notice) (p : Path) : (s.raise n p).side = s.side := rfl
@[simp] theorem State.raise_queues (s : State) (n : Notice) (p : Path) : (s.raise n p).queues = s.queues := rfl
@[simp] theorem State.raise_scans (s : State) (n : Notice) (p : Path) : (s.raise n p).scans = s.scans := rfl
@[simp] theorem State.raise_reserved (s : State) (n : Notice) (p : Path) : (s.raise n p).reserved = s.reserved := rfl
@[simp] theorem State.raise_gate (s : State) (n : Notice) (p : Path) : (s.raise n p).gate = s.gate := rfl
@[simp] theorem State.raise_lastWrite (s : State) (n : Notice) (p : Path) : (s.raise n p).lastWrite = s.lastWrite := rfl
@[simp] theorem State.raise_engine (s : State) (n : Notice) (p : Path) : (s.raise n p).engine = s.engine := rfl
@[simp] theorem State.raise_walk (s : State) (n : Notice) (p : Path) : (s.raise n p).walk = s.walk := rfl
@[simp] theorem State.raise_trackWalk (s : State) (n : Notice) (p : Path) : (s.raise n p).trackWalk = s.trackWalk := rfl
@[simp] theorem State.raise_notes (s : State) (n : Notice) (p : Path) : (s.raise n p).notes = s.notes := rfl
@[simp] theorem State.raise_watch (s : State) (n : Notice) (p : Path) : (s.raise n p).watch = s.watch := rfl
@[simp] theorem State.raise_relocQ (s : State) (n : Notice) (p : Path) : (s.raise n p).relocQ = s.relocQ := rfl
@[simp] theorem State.raise_reloc (s : State) (n : Notice) (p : Path) : (s.raise n p).reloc = s.reloc := rfl
@[simp] theorem State.raise_buffer (s : State) (n : Notice) (p : Path) : (s.raise n p).buffer = s.buffer := rfl
@[simp] theorem State.raise_map (s : State) (n : Notice) (p : Path) : (s.raise n p).map = s.map := rfl
@[simp] theorem State.raise_lastRead (s : State) (n : Notice) (p : Path) : (s.raise n p).lastRead = s.lastRead := rfl
@[simp] theorem State.raise_choices (s : State) (n : Notice) (p : Path) : (s.raise n p).choices = s.choices := rfl

/-! ### `State.raiseAll` -/

@[simp] theorem State.raiseAll_mon (s : State) (n : Notice) : (s.raiseAll n).mon = s.mon := State.foldl_keeps (·.mon) _ _ (fun _ _ => by simp) _
@[simp] theorem State.raiseAll_side (s : State) (n : Notice) : (s.raiseAll n).side = s.side := State.foldl_keeps (·.side) _ _ (fun _ _ => by simp) _
@[simp] theorem State.raiseAll_queues (s : State) (n : Notice) : (s.raiseAll n).queues = s.queues := State.foldl_keeps (·.queues) _ _ (fun _ _ => by simp) _
@[simp] theorem State.raiseAll_scans (s : State) (n : Notice) : (s.raiseAll n).scans = s.scans := State.foldl_keeps (·.scans) _ _ (fun _ _ => by simp) _
@[simp] theorem State.raiseAll_reserved (s : State) (n : Notice) : (s.raiseAll n).reserved = s.reserved := State.foldl_keeps (·.reserved) _ _ (fun _ _ => by simp) _
@[simp] theorem State.raiseAll_gate (s : State) (n : Notice) : (s.raiseAll n).gate = s.gate := State.foldl_keeps (·.gate) _ _ (fun _ _ => by simp) _
@[simp] theorem State.raiseAll_lastWrite (s : State) (n : Notice) : (s.raiseAll n).lastWrite = s.lastWrite := State.foldl_keeps (·.lastWrite) _ _ (fun _ _ => by simp) _
@[simp] theorem State.raiseAll_engine (s : State) (n : Notice) : (s.raiseAll n).engine = s.engine := State.foldl_keeps (·.engine) _ _ (fun _ _ => by simp) _
@[simp] theorem State.raiseAll_walk (s : State) (n : Notice) : (s.raiseAll n).walk = s.walk := State.foldl_keeps (·.walk) _ _ (fun _ _ => by simp) _
@[simp] theorem State.raiseAll_trackWalk (s : State) (n : Notice) : (s.raiseAll n).trackWalk = s.trackWalk := State.foldl_keeps (·.trackWalk) _ _ (fun _ _ => by simp) _
@[simp] theorem State.raiseAll_notes (s : State) (n : Notice) : (s.raiseAll n).notes = s.notes := State.foldl_keeps (·.notes) _ _ (fun _ _ => by simp) _
@[simp] theorem State.raiseAll_watch (s : State) (n : Notice) : (s.raiseAll n).watch = s.watch := State.foldl_keeps (·.watch) _ _ (fun _ _ => by simp) _
@[simp] theorem State.raiseAll_relocQ (s : State) (n : Notice) : (s.raiseAll n).relocQ = s.relocQ := State.foldl_keeps (·.relocQ) _ _ (fun _ _ => by simp) _
@[simp] theorem State.raiseAll_reloc (s : State) (n : Notice) : (s.raiseAll n).reloc = s.reloc := State.foldl_keeps (·.reloc) _ _ (fun _ _ => by simp) _
@[simp] theorem State.raiseAll_buffer (s : State) (n : Notice) : (s.raiseAll n).buffer = s.buffer := State.foldl_keeps (·.buffer) _ _ (fun _ _ => by simp) _
@[simp] theorem State.raiseAll_map (s : State) (n : Notice) : (s.raiseAll n).map = s.map := State.foldl_keeps (·.map) _ _ (fun _ _ => by simp) _
@[simp] theorem State.raiseAll_lastRead (s : State) (n : Notice) : (s.raiseAll n).lastRead = s.lastRead := State.foldl_keeps (·.lastRead) _ _ (fun _ _ => by simp) _
@[simp] theorem State.raiseAll_choices (s : State) (n : Notice) : (s.raiseAll n).choices = s.choices := State.foldl_keeps (·.choices) _ _ (fun _ _ => by simp) _

/-! ### `State.markRoom` -/

@[simp] theorem State.markRoom_mon (s : State) (p : Path) (d : Drive) : (s.markRoom p d).mon = s.mon := rfl
@[simp] theorem State.markRoom_side (s : State) (p : Path) (d : Drive) : (s.markRoom p d).side = s.side := rfl
@[simp] theorem State.markRoom_queues (s : State) (p : Path) (d : Drive) : (s.markRoom p d).queues = s.queues := rfl
@[simp] theorem State.markRoom_scans (s : State) (p : Path) (d : Drive) : (s.markRoom p d).scans = s.scans := rfl
@[simp] theorem State.markRoom_reserved (s : State) (p : Path) (d : Drive) : (s.markRoom p d).reserved = s.reserved := rfl
@[simp] theorem State.markRoom_gate (s : State) (p : Path) (d : Drive) : (s.markRoom p d).gate = s.gate := rfl
@[simp] theorem State.markRoom_lastWrite (s : State) (p : Path) (d : Drive) : (s.markRoom p d).lastWrite = s.lastWrite := rfl
@[simp] theorem State.markRoom_engine (s : State) (p : Path) (d : Drive) : (s.markRoom p d).engine = s.engine := rfl
@[simp] theorem State.markRoom_walk (s : State) (p : Path) (d : Drive) : (s.markRoom p d).walk = s.walk := rfl
@[simp] theorem State.markRoom_trackWalk (s : State) (p : Path) (d : Drive) : (s.markRoom p d).trackWalk = s.trackWalk := rfl
@[simp] theorem State.markRoom_notes (s : State) (p : Path) (d : Drive) : (s.markRoom p d).notes = s.notes := rfl
@[simp] theorem State.markRoom_watch (s : State) (p : Path) (d : Drive) : (s.markRoom p d).watch = s.watch := rfl
@[simp] theorem State.markRoom_relocQ (s : State) (p : Path) (d : Drive) : (s.markRoom p d).relocQ = s.relocQ := rfl
@[simp] theorem State.markRoom_reloc (s : State) (p : Path) (d : Drive) : (s.markRoom p d).reloc = s.reloc := rfl
@[simp] theorem State.markRoom_buffer (s : State) (p : Path) (d : Drive) : (s.markRoom p d).buffer = s.buffer := rfl
@[simp] theorem State.markRoom_map (s : State) (p : Path) (d : Drive) : (s.markRoom p d).map = s.map := rfl
@[simp] theorem State.markRoom_lastRead (s : State) (p : Path) (d : Drive) : (s.markRoom p d).lastRead = s.lastRead := rfl
@[simp] theorem State.markRoom_choices (s : State) (p : Path) (d : Drive) : (s.markRoom p d).choices = s.choices := rfl

/-! ### `State.giveRoom` -/

@[simp] theorem State.giveRoom_mon (s : State) (d : Drive) (p : Path) : (s.giveRoom d p).mon = s.mon := by
  unfold State.giveRoom; split <;> simp
@[simp] theorem State.giveRoom_side (s : State) (d : Drive) (p : Path) : (s.giveRoom d p).side = s.side := by
  unfold State.giveRoom; split <;> simp
@[simp] theorem State.giveRoom_queues (s : State) (d : Drive) (p : Path) : (s.giveRoom d p).queues = s.queues := by
  unfold State.giveRoom; split <;> simp
@[simp] theorem State.giveRoom_scans (s : State) (d : Drive) (p : Path) : (s.giveRoom d p).scans = s.scans := by
  unfold State.giveRoom; split <;> simp
@[simp] theorem State.giveRoom_reserved (s : State) (d : Drive) (p : Path) : (s.giveRoom d p).reserved = s.reserved := by
  unfold State.giveRoom; split <;> simp
@[simp] theorem State.giveRoom_gate (s : State) (d : Drive) (p : Path) : (s.giveRoom d p).gate = s.gate := by
  unfold State.giveRoom; split <;> simp
@[simp] theorem State.giveRoom_lastWrite (s : State) (d : Drive) (p : Path) : (s.giveRoom d p).lastWrite = s.lastWrite := by
  unfold State.giveRoom; split <;> simp
@[simp] theorem State.giveRoom_engine (s : State) (d : Drive) (p : Path) : (s.giveRoom d p).engine = s.engine := by
  unfold State.giveRoom; split <;> simp
@[simp] theorem State.giveRoom_walk (s : State) (d : Drive) (p : Path) : (s.giveRoom d p).walk = s.walk := by
  unfold State.giveRoom; split <;> simp
@[simp] theorem State.giveRoom_trackWalk (s : State) (d : Drive) (p : Path) : (s.giveRoom d p).trackWalk = s.trackWalk := by
  unfold State.giveRoom; split <;> simp
@[simp] theorem State.giveRoom_notes (s : State) (d : Drive) (p : Path) : (s.giveRoom d p).notes = s.notes := by
  unfold State.giveRoom; split <;> simp
@[simp] theorem State.giveRoom_watch (s : State) (d : Drive) (p : Path) : (s.giveRoom d p).watch = s.watch := by
  unfold State.giveRoom; split <;> simp
@[simp] theorem State.giveRoom_relocQ (s : State) (d : Drive) (p : Path) : (s.giveRoom d p).relocQ = s.relocQ := by
  unfold State.giveRoom; split <;> simp
@[simp] theorem State.giveRoom_reloc (s : State) (d : Drive) (p : Path) : (s.giveRoom d p).reloc = s.reloc := by
  unfold State.giveRoom; split <;> simp
@[simp] theorem State.giveRoom_buffer (s : State) (d : Drive) (p : Path) : (s.giveRoom d p).buffer = s.buffer := by
  unfold State.giveRoom; split <;> simp
@[simp] theorem State.giveRoom_map (s : State) (d : Drive) (p : Path) : (s.giveRoom d p).map = s.map := by
  unfold State.giveRoom; split <;> simp
@[simp] theorem State.giveRoom_lastRead (s : State) (d : Drive) (p : Path) : (s.giveRoom d p).lastRead = s.lastRead := by
  unfold State.giveRoom; split <;> simp
@[simp] theorem State.giveRoom_choices (s : State) (d : Drive) (p : Path) : (s.giveRoom d p).choices = s.choices := by
  unfold State.giveRoom; split <;> simp

/-! ### `State.loseEntries` -/

@[simp] theorem State.loseEntries_mon (s : State) (d : Drive) (q : List Request) : (s.loseEntries d q).mon = s.mon := by
  unfold State.loseEntries; split
  · exact State.foldl_keeps (·.mon) _ _ (fun _ _ => by simp) _
  · rfl
@[simp] theorem State.loseEntries_side (s : State) (d : Drive) (q : List Request) : (s.loseEntries d q).side = s.side := by
  unfold State.loseEntries; split
  · exact State.foldl_keeps (·.side) _ _ (fun _ _ => by simp) _
  · rfl
@[simp] theorem State.loseEntries_scans (s : State) (d : Drive) (q : List Request) : (s.loseEntries d q).scans = s.scans := by
  unfold State.loseEntries; split
  · exact State.foldl_keeps (·.scans) _ _ (fun _ _ => by simp) _
  · rfl
@[simp] theorem State.loseEntries_reserved (s : State) (d : Drive) (q : List Request) : (s.loseEntries d q).reserved = s.reserved := by
  unfold State.loseEntries; split
  · exact State.foldl_keeps (·.reserved) _ _ (fun _ _ => by simp) _
  · rfl
@[simp] theorem State.loseEntries_gate (s : State) (d : Drive) (q : List Request) : (s.loseEntries d q).gate = s.gate := by
  unfold State.loseEntries; split
  · exact State.foldl_keeps (·.gate) _ _ (fun _ _ => by simp) _
  · rfl
@[simp] theorem State.loseEntries_lastWrite (s : State) (d : Drive) (q : List Request) : (s.loseEntries d q).lastWrite = s.lastWrite := by
  unfold State.loseEntries; split
  · exact State.foldl_keeps (·.lastWrite) _ _ (fun _ _ => by simp) _
  · rfl
@[simp] theorem State.loseEntries_engine (s : State) (d : Drive) (q : List Request) : (s.loseEntries d q).engine = s.engine := by
  unfold State.loseEntries; split
  · exact State.foldl_keeps (·.engine) _ _ (fun _ _ => by simp) _
  · rfl
@[simp] theorem State.loseEntries_walk (s : State) (d : Drive) (q : List Request) : (s.loseEntries d q).walk = s.walk := by
  unfold State.loseEntries; split
  · exact State.foldl_keeps (·.walk) _ _ (fun _ _ => by simp) _
  · rfl
@[simp] theorem State.loseEntries_trackWalk (s : State) (d : Drive) (q : List Request) : (s.loseEntries d q).trackWalk = s.trackWalk := by
  unfold State.loseEntries; split
  · exact State.foldl_keeps (·.trackWalk) _ _ (fun _ _ => by simp) _
  · rfl
@[simp] theorem State.loseEntries_notes (s : State) (d : Drive) (q : List Request) : (s.loseEntries d q).notes = s.notes := by
  unfold State.loseEntries; split
  · exact State.foldl_keeps (·.notes) _ _ (fun _ _ => by simp) _
  · rfl
@[simp] theorem State.loseEntries_watch (s : State) (d : Drive) (q : List Request) : (s.loseEntries d q).watch = s.watch := by
  unfold State.loseEntries; split
  · exact State.foldl_keeps (·.watch) _ _ (fun _ _ => by simp) _
  · rfl
@[simp] theorem State.loseEntries_relocQ (s : State) (d : Drive) (q : List Request) : (s.loseEntries d q).relocQ = s.relocQ := by
  unfold State.loseEntries; split
  · exact State.foldl_keeps (·.relocQ) _ _ (fun _ _ => by simp) _
  · rfl
@[simp] theorem State.loseEntries_reloc (s : State) (d : Drive) (q : List Request) : (s.loseEntries d q).reloc = s.reloc := by
  unfold State.loseEntries; split
  · exact State.foldl_keeps (·.reloc) _ _ (fun _ _ => by simp) _
  · rfl
@[simp] theorem State.loseEntries_buffer (s : State) (d : Drive) (q : List Request) : (s.loseEntries d q).buffer = s.buffer := by
  unfold State.loseEntries; split
  · exact State.foldl_keeps (·.buffer) _ _ (fun _ _ => by simp) _
  · rfl
@[simp] theorem State.loseEntries_map (s : State) (d : Drive) (q : List Request) : (s.loseEntries d q).map = s.map := by
  unfold State.loseEntries; split
  · exact State.foldl_keeps (·.map) _ _ (fun _ _ => by simp) _
  · rfl
@[simp] theorem State.loseEntries_lastRead (s : State) (d : Drive) (q : List Request) : (s.loseEntries d q).lastRead = s.lastRead := by
  unfold State.loseEntries; split
  · exact State.foldl_keeps (·.lastRead) _ _ (fun _ _ => by simp) _
  · rfl
@[simp] theorem State.loseEntries_choices (s : State) (d : Drive) (q : List Request) : (s.loseEntries d q).choices = s.choices := by
  unfold State.loseEntries; split
  · exact State.foldl_keeps (·.choices) _ _ (fun _ _ => by simp) _
  · rfl

/-! ### `State.markRelease` -/

@[simp] theorem State.markRelease_mon (s : State) (p : Path) (d : Drive) : (s.markRelease p d).mon = s.mon := rfl
@[simp] theorem State.markRelease_side (s : State) (p : Path) (d : Drive) : (s.markRelease p d).side = s.side := rfl
@[simp] theorem State.markRelease_queues (s : State) (p : Path) (d : Drive) : (s.markRelease p d).queues = s.queues := rfl
@[simp] theorem State.markRelease_scans (s : State) (p : Path) (d : Drive) : (s.markRelease p d).scans = s.scans := rfl
@[simp] theorem State.markRelease_reserved (s : State) (p : Path) (d : Drive) : (s.markRelease p d).reserved = s.reserved := rfl
@[simp] theorem State.markRelease_gate (s : State) (p : Path) (d : Drive) : (s.markRelease p d).gate = s.gate := rfl
@[simp] theorem State.markRelease_lastWrite (s : State) (p : Path) (d : Drive) : (s.markRelease p d).lastWrite = s.lastWrite := rfl
@[simp] theorem State.markRelease_engine (s : State) (p : Path) (d : Drive) : (s.markRelease p d).engine = s.engine := rfl
@[simp] theorem State.markRelease_walk (s : State) (p : Path) (d : Drive) : (s.markRelease p d).walk = s.walk := rfl
@[simp] theorem State.markRelease_trackWalk (s : State) (p : Path) (d : Drive) : (s.markRelease p d).trackWalk = s.trackWalk := rfl
@[simp] theorem State.markRelease_notes (s : State) (p : Path) (d : Drive) : (s.markRelease p d).notes = s.notes := rfl
@[simp] theorem State.markRelease_watch (s : State) (p : Path) (d : Drive) : (s.markRelease p d).watch = s.watch := rfl
@[simp] theorem State.markRelease_relocQ (s : State) (p : Path) (d : Drive) : (s.markRelease p d).relocQ = s.relocQ := rfl
@[simp] theorem State.markRelease_reloc (s : State) (p : Path) (d : Drive) : (s.markRelease p d).reloc = s.reloc := rfl
@[simp] theorem State.markRelease_buffer (s : State) (p : Path) (d : Drive) : (s.markRelease p d).buffer = s.buffer := rfl
@[simp] theorem State.markRelease_map (s : State) (p : Path) (d : Drive) : (s.markRelease p d).map = s.map := rfl
@[simp] theorem State.markRelease_lastRead (s : State) (p : Path) (d : Drive) : (s.markRelease p d).lastRead = s.lastRead := rfl
@[simp] theorem State.markRelease_choices (s : State) (p : Path) (d : Drive) : (s.markRelease p d).choices = s.choices := rfl

/-! ### `State.giveReleased` -/

@[simp] theorem State.giveReleased_mon (s : State) (d : Drive) (named : Bool) (p : Path) : (s.giveReleased d named p).mon = s.mon := by
  unfold State.giveReleased; split <;> simp
@[simp] theorem State.giveReleased_side (s : State) (d : Drive) (named : Bool) (p : Path) : (s.giveReleased d named p).side = s.side := by
  unfold State.giveReleased; split <;> simp
@[simp] theorem State.giveReleased_queues (s : State) (d : Drive) (named : Bool) (p : Path) : (s.giveReleased d named p).queues = s.queues := by
  unfold State.giveReleased; split <;> simp
@[simp] theorem State.giveReleased_scans (s : State) (d : Drive) (named : Bool) (p : Path) : (s.giveReleased d named p).scans = s.scans := by
  unfold State.giveReleased; split <;> simp
@[simp] theorem State.giveReleased_reserved (s : State) (d : Drive) (named : Bool) (p : Path) : (s.giveReleased d named p).reserved = s.reserved := by
  unfold State.giveReleased; split <;> simp
@[simp] theorem State.giveReleased_gate (s : State) (d : Drive) (named : Bool) (p : Path) : (s.giveReleased d named p).gate = s.gate := by
  unfold State.giveReleased; split <;> simp
@[simp] theorem State.giveReleased_lastWrite (s : State) (d : Drive) (named : Bool) (p : Path) : (s.giveReleased d named p).lastWrite = s.lastWrite := by
  unfold State.giveReleased; split <;> simp
@[simp] theorem State.giveReleased_engine (s : State) (d : Drive) (named : Bool) (p : Path) : (s.giveReleased d named p).engine = s.engine := by
  unfold State.giveReleased; split <;> simp
@[simp] theorem State.giveReleased_walk (s : State) (d : Drive) (named : Bool) (p : Path) : (s.giveReleased d named p).walk = s.walk := by
  unfold State.giveReleased; split <;> simp
@[simp] theorem State.giveReleased_trackWalk (s : State) (d : Drive) (named : Bool) (p : Path) : (s.giveReleased d named p).trackWalk = s.trackWalk := by
  unfold State.giveReleased; split <;> simp
@[simp] theorem State.giveReleased_notes (s : State) (d : Drive) (named : Bool) (p : Path) : (s.giveReleased d named p).notes = s.notes := by
  unfold State.giveReleased; split <;> simp
@[simp] theorem State.giveReleased_watch (s : State) (d : Drive) (named : Bool) (p : Path) : (s.giveReleased d named p).watch = s.watch := by
  unfold State.giveReleased; split <;> simp
@[simp] theorem State.giveReleased_relocQ (s : State) (d : Drive) (named : Bool) (p : Path) : (s.giveReleased d named p).relocQ = s.relocQ := by
  unfold State.giveReleased; split <;> simp
@[simp] theorem State.giveReleased_reloc (s : State) (d : Drive) (named : Bool) (p : Path) : (s.giveReleased d named p).reloc = s.reloc := by
  unfold State.giveReleased; split <;> simp
@[simp] theorem State.giveReleased_buffer (s : State) (d : Drive) (named : Bool) (p : Path) : (s.giveReleased d named p).buffer = s.buffer := by
  unfold State.giveReleased; split <;> simp
@[simp] theorem State.giveReleased_map (s : State) (d : Drive) (named : Bool) (p : Path) : (s.giveReleased d named p).map = s.map := by
  unfold State.giveReleased; split <;> simp
@[simp] theorem State.giveReleased_lastRead (s : State) (d : Drive) (named : Bool) (p : Path) : (s.giveReleased d named p).lastRead = s.lastRead := by
  unfold State.giveReleased; split <;> simp
@[simp] theorem State.giveReleased_choices (s : State) (d : Drive) (named : Bool) (p : Path) : (s.giveReleased d named p).choices = s.choices := by
  unfold State.giveReleased; split <;> simp

/-! ### `State.releaseDrive` -/

@[simp] theorem State.releaseDrive_mon (s : State) (d : Drive) (former : Option Nat) : (s.releaseDrive d former).mon = s.mon := State.foldl_keeps (·.mon) _ _ (fun _ _ => by simp) _
@[simp] theorem State.releaseDrive_side (s : State) (d : Drive) (former : Option Nat) : (s.releaseDrive d former).side = s.side := State.foldl_keeps (·.side) _ _ (fun _ _ => by simp) _
@[simp] theorem State.releaseDrive_queues (s : State) (d : Drive) (former : Option Nat) : (s.releaseDrive d former).queues = s.queues := State.foldl_keeps (·.queues) _ _ (fun _ _ => by simp) _
@[simp] theorem State.releaseDrive_scans (s : State) (d : Drive) (former : Option Nat) : (s.releaseDrive d former).scans = s.scans := State.foldl_keeps (·.scans) _ _ (fun _ _ => by simp) _
@[simp] theorem State.releaseDrive_gate (s : State) (d : Drive) (former : Option Nat) : (s.releaseDrive d former).gate = s.gate := State.foldl_keeps (·.gate) _ _ (fun _ _ => by simp) _
@[simp] theorem State.releaseDrive_lastWrite (s : State) (d : Drive) (former : Option Nat) : (s.releaseDrive d former).lastWrite = s.lastWrite := State.foldl_keeps (·.lastWrite) _ _ (fun _ _ => by simp) _
@[simp] theorem State.releaseDrive_engine (s : State) (d : Drive) (former : Option Nat) : (s.releaseDrive d former).engine = s.engine := State.foldl_keeps (·.engine) _ _ (fun _ _ => by simp) _
@[simp] theorem State.releaseDrive_walk (s : State) (d : Drive) (former : Option Nat) : (s.releaseDrive d former).walk = s.walk := State.foldl_keeps (·.walk) _ _ (fun _ _ => by simp) _
@[simp] theorem State.releaseDrive_trackWalk (s : State) (d : Drive) (former : Option Nat) : (s.releaseDrive d former).trackWalk = s.trackWalk := State.foldl_keeps (·.trackWalk) _ _ (fun _ _ => by simp) _
@[simp] theorem State.releaseDrive_notes (s : State) (d : Drive) (former : Option Nat) : (s.releaseDrive d former).notes = s.notes := State.foldl_keeps (·.notes) _ _ (fun _ _ => by simp) _
@[simp] theorem State.releaseDrive_watch (s : State) (d : Drive) (former : Option Nat) : (s.releaseDrive d former).watch = s.watch := State.foldl_keeps (·.watch) _ _ (fun _ _ => by simp) _
@[simp] theorem State.releaseDrive_relocQ (s : State) (d : Drive) (former : Option Nat) : (s.releaseDrive d former).relocQ = s.relocQ := State.foldl_keeps (·.relocQ) _ _ (fun _ _ => by simp) _
@[simp] theorem State.releaseDrive_reloc (s : State) (d : Drive) (former : Option Nat) : (s.releaseDrive d former).reloc = s.reloc := State.foldl_keeps (·.reloc) _ _ (fun _ _ => by simp) _
@[simp] theorem State.releaseDrive_buffer (s : State) (d : Drive) (former : Option Nat) : (s.releaseDrive d former).buffer = s.buffer := State.foldl_keeps (·.buffer) _ _ (fun _ _ => by simp) _
@[simp] theorem State.releaseDrive_map (s : State) (d : Drive) (former : Option Nat) : (s.releaseDrive d former).map = s.map := State.foldl_keeps (·.map) _ _ (fun _ _ => by simp) _
@[simp] theorem State.releaseDrive_lastRead (s : State) (d : Drive) (former : Option Nat) : (s.releaseDrive d former).lastRead = s.lastRead := State.foldl_keeps (·.lastRead) _ _ (fun _ _ => by simp) _
@[simp] theorem State.releaseDrive_choices (s : State) (d : Drive) (former : Option Nat) : (s.releaseDrive d former).choices = s.choices := State.foldl_keeps (·.choices) _ _ (fun _ _ => by simp) _

/-! ### `State.emptyGroup` -/

@[simp] theorem State.emptyGroup_mon (s : State) (g : Nat) : (s.emptyGroup g).mon = s.mon := by
  unfold State.emptyGroup; split
  · exact State.foldl_keeps (·.mon) _ _ (fun _ _ => by split <;> simp) _
  · rfl
@[simp] theorem State.emptyGroup_side (s : State) (g : Nat) : (s.emptyGroup g).side = s.side := by
  unfold State.emptyGroup; split
  · exact State.foldl_keeps (·.side) _ _ (fun _ _ => by split <;> simp) _
  · rfl
@[simp] theorem State.emptyGroup_queues (s : State) (g : Nat) : (s.emptyGroup g).queues = s.queues := by
  unfold State.emptyGroup; split
  · exact State.foldl_keeps (·.queues) _ _ (fun _ _ => by split <;> simp) _
  · rfl
@[simp] theorem State.emptyGroup_scans (s : State) (g : Nat) : (s.emptyGroup g).scans = s.scans := by
  unfold State.emptyGroup; split
  · exact State.foldl_keeps (·.scans) _ _ (fun _ _ => by split <;> simp) _
  · rfl
@[simp] theorem State.emptyGroup_gate (s : State) (g : Nat) : (s.emptyGroup g).gate = s.gate := by
  unfold State.emptyGroup; split
  · exact State.foldl_keeps (·.gate) _ _ (fun _ _ => by split <;> simp) _
  · rfl
@[simp] theorem State.emptyGroup_lastWrite (s : State) (g : Nat) : (s.emptyGroup g).lastWrite = s.lastWrite := by
  unfold State.emptyGroup; split
  · exact State.foldl_keeps (·.lastWrite) _ _ (fun _ _ => by split <;> simp) _
  · rfl
@[simp] theorem State.emptyGroup_engine (s : State) (g : Nat) : (s.emptyGroup g).engine = s.engine := by
  unfold State.emptyGroup; split
  · exact State.foldl_keeps (·.engine) _ _ (fun _ _ => by split <;> simp) _
  · rfl
@[simp] theorem State.emptyGroup_walk (s : State) (g : Nat) : (s.emptyGroup g).walk = s.walk := by
  unfold State.emptyGroup; split
  · exact State.foldl_keeps (·.walk) _ _ (fun _ _ => by split <;> simp) _
  · rfl
@[simp] theorem State.emptyGroup_trackWalk (s : State) (g : Nat) : (s.emptyGroup g).trackWalk = s.trackWalk := by
  unfold State.emptyGroup; split
  · exact State.foldl_keeps (·.trackWalk) _ _ (fun _ _ => by split <;> simp) _
  · rfl
@[simp] theorem State.emptyGroup_notes (s : State) (g : Nat) : (s.emptyGroup g).notes = s.notes := by
  unfold State.emptyGroup; split
  · exact State.foldl_keeps (·.notes) _ _ (fun _ _ => by split <;> simp) _
  · rfl
@[simp] theorem State.emptyGroup_watch (s : State) (g : Nat) : (s.emptyGroup g).watch = s.watch := by
  unfold State.emptyGroup; split
  · exact State.foldl_keeps (·.watch) _ _ (fun _ _ => by split <;> simp) _
  · rfl
@[simp] theorem State.emptyGroup_relocQ (s : State) (g : Nat) : (s.emptyGroup g).relocQ = s.relocQ := by
  unfold State.emptyGroup; split
  · exact State.foldl_keeps (·.relocQ) _ _ (fun _ _ => by split <;> simp) _
  · rfl
@[simp] theorem State.emptyGroup_reloc (s : State) (g : Nat) : (s.emptyGroup g).reloc = s.reloc := by
  unfold State.emptyGroup; split
  · exact State.foldl_keeps (·.reloc) _ _ (fun _ _ => by split <;> simp) _
  · rfl
@[simp] theorem State.emptyGroup_buffer (s : State) (g : Nat) : (s.emptyGroup g).buffer = s.buffer := by
  unfold State.emptyGroup; split
  · exact State.foldl_keeps (·.buffer) _ _ (fun _ _ => by split <;> simp) _
  · rfl
@[simp] theorem State.emptyGroup_map (s : State) (g : Nat) : (s.emptyGroup g).map = s.map := by
  unfold State.emptyGroup; split
  · exact State.foldl_keeps (·.map) _ _ (fun _ _ => by split <;> simp) _
  · rfl
@[simp] theorem State.emptyGroup_lastRead (s : State) (g : Nat) : (s.emptyGroup g).lastRead = s.lastRead := by
  unfold State.emptyGroup; split
  · exact State.foldl_keeps (·.lastRead) _ _ (fun _ _ => by split <;> simp) _
  · rfl
@[simp] theorem State.emptyGroup_choices (s : State) (g : Nat) : (s.emptyGroup g).choices = s.choices := by
  unfold State.emptyGroup; split
  · exact State.foldl_keeps (·.choices) _ _ (fun _ _ => by split <;> simp) _
  · rfl

/-! ### `State.capture` -/

@[simp] theorem State.capture_mon (s : State) (p : Path) (e : Ending) : (s.capture p e).mon = s.mon := by
  unfold State.capture; split <;> simp
@[simp] theorem State.capture_side (s : State) (p : Path) (e : Ending) : (s.capture p e).side = s.side := by
  unfold State.capture; split <;> simp
@[simp] theorem State.capture_queues (s : State) (p : Path) (e : Ending) : (s.capture p e).queues = s.queues := by
  unfold State.capture; split <;> simp
@[simp] theorem State.capture_scans (s : State) (p : Path) (e : Ending) : (s.capture p e).scans = s.scans := by
  unfold State.capture; split <;> simp
@[simp] theorem State.capture_reserved (s : State) (p : Path) (e : Ending) : (s.capture p e).reserved = s.reserved := by
  unfold State.capture; split <;> simp
@[simp] theorem State.capture_gate (s : State) (p : Path) (e : Ending) : (s.capture p e).gate = s.gate := by
  unfold State.capture; split <;> simp
@[simp] theorem State.capture_lastWrite (s : State) (p : Path) (e : Ending) : (s.capture p e).lastWrite = s.lastWrite := by
  unfold State.capture; split <;> simp
@[simp] theorem State.capture_engine (s : State) (p : Path) (e : Ending) : (s.capture p e).engine = s.engine := by
  unfold State.capture; split <;> simp
@[simp] theorem State.capture_walk (s : State) (p : Path) (e : Ending) : (s.capture p e).walk = s.walk := by
  unfold State.capture; split <;> simp
@[simp] theorem State.capture_trackWalk (s : State) (p : Path) (e : Ending) : (s.capture p e).trackWalk = s.trackWalk := by
  unfold State.capture; split <;> simp
@[simp] theorem State.capture_notes (s : State) (p : Path) (e : Ending) : (s.capture p e).notes = s.notes := by
  unfold State.capture; split <;> simp
@[simp] theorem State.capture_watch (s : State) (p : Path) (e : Ending) : (s.capture p e).watch = s.watch := by
  unfold State.capture; split <;> simp
@[simp] theorem State.capture_relocQ (s : State) (p : Path) (e : Ending) : (s.capture p e).relocQ = s.relocQ := by
  unfold State.capture; split <;> simp
@[simp] theorem State.capture_reloc (s : State) (p : Path) (e : Ending) : (s.capture p e).reloc = s.reloc := by
  unfold State.capture; split <;> simp
@[simp] theorem State.capture_buffer (s : State) (p : Path) (e : Ending) : (s.capture p e).buffer = s.buffer := by
  unfold State.capture; split <;> simp
@[simp] theorem State.capture_map (s : State) (p : Path) (e : Ending) : (s.capture p e).map = s.map := by
  unfold State.capture; split <;> simp
@[simp] theorem State.capture_lastRead (s : State) (p : Path) (e : Ending) : (s.capture p e).lastRead = s.lastRead := by
  unfold State.capture; split <;> simp
@[simp] theorem State.capture_choices (s : State) (p : Path) (e : Ending) : (s.capture p e).choices = s.choices := by
  unfold State.capture; split <;> simp

/-! ### `State.createPending` -/

@[simp] theorem State.createPending_mon (s : State) (d : Drive) (home : Track) : (s.createPending d home).mon = s.mon := by
  unfold State.createPending; split <;> simp
@[simp] theorem State.createPending_side (s : State) (d : Drive) (home : Track) : (s.createPending d home).side = s.side := by
  unfold State.createPending; split <;> simp
@[simp] theorem State.createPending_queues (s : State) (d : Drive) (home : Track) : (s.createPending d home).queues = s.queues := by
  unfold State.createPending; split <;> simp
@[simp] theorem State.createPending_scans (s : State) (d : Drive) (home : Track) : (s.createPending d home).scans = s.scans := by
  unfold State.createPending; split <;> simp
@[simp] theorem State.createPending_reserved (s : State) (d : Drive) (home : Track) : (s.createPending d home).reserved = s.reserved := by
  unfold State.createPending; split <;> simp
@[simp] theorem State.createPending_ports (s : State) (d : Drive) (home : Track) : (s.createPending d home).ports = s.ports := by
  unfold State.createPending; split <;> simp
@[simp] theorem State.createPending_gate (s : State) (d : Drive) (home : Track) : (s.createPending d home).gate = s.gate := by
  unfold State.createPending; split <;> simp
@[simp] theorem State.createPending_lastWrite (s : State) (d : Drive) (home : Track) : (s.createPending d home).lastWrite = s.lastWrite := by
  unfold State.createPending; split <;> simp
@[simp] theorem State.createPending_engine (s : State) (d : Drive) (home : Track) : (s.createPending d home).engine = s.engine := by
  unfold State.createPending; split <;> simp
@[simp] theorem State.createPending_walk (s : State) (d : Drive) (home : Track) : (s.createPending d home).walk = s.walk := by
  unfold State.createPending; split <;> simp
@[simp] theorem State.createPending_trackWalk (s : State) (d : Drive) (home : Track) : (s.createPending d home).trackWalk = s.trackWalk := by
  unfold State.createPending; split <;> simp
@[simp] theorem State.createPending_notes (s : State) (d : Drive) (home : Track) : (s.createPending d home).notes = s.notes := by
  unfold State.createPending; split <;> simp
@[simp] theorem State.createPending_watch (s : State) (d : Drive) (home : Track) : (s.createPending d home).watch = s.watch := by
  unfold State.createPending; split <;> simp
@[simp] theorem State.createPending_relocQ (s : State) (d : Drive) (home : Track) : (s.createPending d home).relocQ = s.relocQ := by
  unfold State.createPending; split <;> simp
@[simp] theorem State.createPending_reloc (s : State) (d : Drive) (home : Track) : (s.createPending d home).reloc = s.reloc := by
  unfold State.createPending; split <;> simp
@[simp] theorem State.createPending_buffer (s : State) (d : Drive) (home : Track) : (s.createPending d home).buffer = s.buffer := by
  unfold State.createPending; split <;> simp
@[simp] theorem State.createPending_lastRead (s : State) (d : Drive) (home : Track) : (s.createPending d home).lastRead = s.lastRead := by
  unfold State.createPending; split <;> simp
@[simp] theorem State.createPending_choices (s : State) (d : Drive) (home : Track) : (s.createPending d home).choices = s.choices := by
  unfold State.createPending; split <;> simp

/-! ### `State.activate` -/

@[simp] theorem State.activate_mon (s : State) (d : Drive) (home : Track) : (s.activate d home).mon = s.mon := rfl
@[simp] theorem State.activate_side (s : State) (d : Drive) (home : Track) : (s.activate d home).side = s.side := rfl
@[simp] theorem State.activate_queues (s : State) (d : Drive) (home : Track) : (s.activate d home).queues = s.queues := rfl
@[simp] theorem State.activate_scans (s : State) (d : Drive) (home : Track) : (s.activate d home).scans = s.scans := rfl
@[simp] theorem State.activate_reserved (s : State) (d : Drive) (home : Track) : (s.activate d home).reserved = s.reserved := rfl
@[simp] theorem State.activate_ports (s : State) (d : Drive) (home : Track) : (s.activate d home).ports = s.ports := rfl
@[simp] theorem State.activate_gate (s : State) (d : Drive) (home : Track) : (s.activate d home).gate = s.gate := rfl
@[simp] theorem State.activate_lastWrite (s : State) (d : Drive) (home : Track) : (s.activate d home).lastWrite = s.lastWrite := rfl
@[simp] theorem State.activate_engine (s : State) (d : Drive) (home : Track) : (s.activate d home).engine = s.engine := rfl
@[simp] theorem State.activate_walk (s : State) (d : Drive) (home : Track) : (s.activate d home).walk = s.walk := rfl
@[simp] theorem State.activate_trackWalk (s : State) (d : Drive) (home : Track) : (s.activate d home).trackWalk = s.trackWalk := rfl
@[simp] theorem State.activate_notes (s : State) (d : Drive) (home : Track) : (s.activate d home).notes = s.notes := rfl
@[simp] theorem State.activate_watch (s : State) (d : Drive) (home : Track) : (s.activate d home).watch = s.watch := rfl
@[simp] theorem State.activate_relocQ (s : State) (d : Drive) (home : Track) : (s.activate d home).relocQ = s.relocQ := rfl
@[simp] theorem State.activate_reloc (s : State) (d : Drive) (home : Track) : (s.activate d home).reloc = s.reloc := rfl
@[simp] theorem State.activate_buffer (s : State) (d : Drive) (home : Track) : (s.activate d home).buffer = s.buffer := rfl
@[simp] theorem State.activate_lastRead (s : State) (d : Drive) (home : Track) : (s.activate d home).lastRead = s.lastRead := rfl
@[simp] theorem State.activate_choices (s : State) (d : Drive) (home : Track) : (s.activate d home).choices = s.choices := rfl

/-! ### `State.withdraw` -/

@[simp] theorem State.withdraw_mon (s : State) (d : Drive) : (s.withdraw d).mon = s.mon := rfl
@[simp] theorem State.withdraw_side (s : State) (d : Drive) : (s.withdraw d).side = s.side := rfl
@[simp] theorem State.withdraw_queues (s : State) (d : Drive) : (s.withdraw d).queues = s.queues := rfl
@[simp] theorem State.withdraw_scans (s : State) (d : Drive) : (s.withdraw d).scans = s.scans := rfl
@[simp] theorem State.withdraw_reserved (s : State) (d : Drive) : (s.withdraw d).reserved = s.reserved := rfl
@[simp] theorem State.withdraw_ports (s : State) (d : Drive) : (s.withdraw d).ports = s.ports := rfl
@[simp] theorem State.withdraw_gate (s : State) (d : Drive) : (s.withdraw d).gate = s.gate := rfl
@[simp] theorem State.withdraw_lastWrite (s : State) (d : Drive) : (s.withdraw d).lastWrite = s.lastWrite := rfl
@[simp] theorem State.withdraw_engine (s : State) (d : Drive) : (s.withdraw d).engine = s.engine := rfl
@[simp] theorem State.withdraw_walk (s : State) (d : Drive) : (s.withdraw d).walk = s.walk := rfl
@[simp] theorem State.withdraw_trackWalk (s : State) (d : Drive) : (s.withdraw d).trackWalk = s.trackWalk := rfl
@[simp] theorem State.withdraw_notes (s : State) (d : Drive) : (s.withdraw d).notes = s.notes := rfl
@[simp] theorem State.withdraw_watch (s : State) (d : Drive) : (s.withdraw d).watch = s.watch := rfl
@[simp] theorem State.withdraw_relocQ (s : State) (d : Drive) : (s.withdraw d).relocQ = s.relocQ := rfl
@[simp] theorem State.withdraw_reloc (s : State) (d : Drive) : (s.withdraw d).reloc = s.reloc := rfl
@[simp] theorem State.withdraw_buffer (s : State) (d : Drive) : (s.withdraw d).buffer = s.buffer := rfl
@[simp] theorem State.withdraw_lastRead (s : State) (d : Drive) : (s.withdraw d).lastRead = s.lastRead := rfl
@[simp] theorem State.withdraw_choices (s : State) (d : Drive) : (s.withdraw d).choices = s.choices := rfl

/-! ### `State.removePending` -/

@[simp] theorem State.removePending_mon (s : State) (d : Drive) : (s.removePending d).mon = s.mon := rfl
@[simp] theorem State.removePending_side (s : State) (d : Drive) : (s.removePending d).side = s.side := rfl
@[simp] theorem State.removePending_queues (s : State) (d : Drive) : (s.removePending d).queues = s.queues := rfl
@[simp] theorem State.removePending_scans (s : State) (d : Drive) : (s.removePending d).scans = s.scans := rfl
@[simp] theorem State.removePending_reserved (s : State) (d : Drive) : (s.removePending d).reserved = s.reserved := rfl
@[simp] theorem State.removePending_ports (s : State) (d : Drive) : (s.removePending d).ports = s.ports := rfl
@[simp] theorem State.removePending_gate (s : State) (d : Drive) : (s.removePending d).gate = s.gate := rfl
@[simp] theorem State.removePending_lastWrite (s : State) (d : Drive) : (s.removePending d).lastWrite = s.lastWrite := rfl
@[simp] theorem State.removePending_engine (s : State) (d : Drive) : (s.removePending d).engine = s.engine := rfl
@[simp] theorem State.removePending_walk (s : State) (d : Drive) : (s.removePending d).walk = s.walk := rfl
@[simp] theorem State.removePending_trackWalk (s : State) (d : Drive) : (s.removePending d).trackWalk = s.trackWalk := rfl
@[simp] theorem State.removePending_notes (s : State) (d : Drive) : (s.removePending d).notes = s.notes := rfl
@[simp] theorem State.removePending_watch (s : State) (d : Drive) : (s.removePending d).watch = s.watch := rfl
@[simp] theorem State.removePending_relocQ (s : State) (d : Drive) : (s.removePending d).relocQ = s.relocQ := rfl
@[simp] theorem State.removePending_reloc (s : State) (d : Drive) : (s.removePending d).reloc = s.reloc := rfl
@[simp] theorem State.removePending_buffer (s : State) (d : Drive) : (s.removePending d).buffer = s.buffer := rfl
@[simp] theorem State.removePending_lastRead (s : State) (d : Drive) : (s.removePending d).lastRead = s.lastRead := rfl
@[simp] theorem State.removePending_choices (s : State) (d : Drive) : (s.removePending d).choices = s.choices := rfl

/-! ### `State.replaceRecords` -/

@[simp] theorem State.replaceRecords_mon (s : State) (d : Drive) (rs : List MapRec) : (s.replaceRecords d rs).mon = s.mon := rfl
@[simp] theorem State.replaceRecords_side (s : State) (d : Drive) (rs : List MapRec) : (s.replaceRecords d rs).side = s.side := rfl
@[simp] theorem State.replaceRecords_queues (s : State) (d : Drive) (rs : List MapRec) : (s.replaceRecords d rs).queues = s.queues := rfl
@[simp] theorem State.replaceRecords_scans (s : State) (d : Drive) (rs : List MapRec) : (s.replaceRecords d rs).scans = s.scans := rfl
@[simp] theorem State.replaceRecords_reserved (s : State) (d : Drive) (rs : List MapRec) : (s.replaceRecords d rs).reserved = s.reserved := rfl
@[simp] theorem State.replaceRecords_ports (s : State) (d : Drive) (rs : List MapRec) : (s.replaceRecords d rs).ports = s.ports := rfl
@[simp] theorem State.replaceRecords_gate (s : State) (d : Drive) (rs : List MapRec) : (s.replaceRecords d rs).gate = s.gate := rfl
@[simp] theorem State.replaceRecords_lastWrite (s : State) (d : Drive) (rs : List MapRec) : (s.replaceRecords d rs).lastWrite = s.lastWrite := rfl
@[simp] theorem State.replaceRecords_engine (s : State) (d : Drive) (rs : List MapRec) : (s.replaceRecords d rs).engine = s.engine := rfl
@[simp] theorem State.replaceRecords_walk (s : State) (d : Drive) (rs : List MapRec) : (s.replaceRecords d rs).walk = s.walk := rfl
@[simp] theorem State.replaceRecords_trackWalk (s : State) (d : Drive) (rs : List MapRec) : (s.replaceRecords d rs).trackWalk = s.trackWalk := rfl
@[simp] theorem State.replaceRecords_notes (s : State) (d : Drive) (rs : List MapRec) : (s.replaceRecords d rs).notes = s.notes := rfl
@[simp] theorem State.replaceRecords_watch (s : State) (d : Drive) (rs : List MapRec) : (s.replaceRecords d rs).watch = s.watch := rfl
@[simp] theorem State.replaceRecords_relocQ (s : State) (d : Drive) (rs : List MapRec) : (s.replaceRecords d rs).relocQ = s.relocQ := rfl
@[simp] theorem State.replaceRecords_reloc (s : State) (d : Drive) (rs : List MapRec) : (s.replaceRecords d rs).reloc = s.reloc := rfl
@[simp] theorem State.replaceRecords_buffer (s : State) (d : Drive) (rs : List MapRec) : (s.replaceRecords d rs).buffer = s.buffer := rfl
@[simp] theorem State.replaceRecords_lastRead (s : State) (d : Drive) (rs : List MapRec) : (s.replaceRecords d rs).lastRead = s.lastRead := rfl
@[simp] theorem State.replaceRecords_choices (s : State) (d : Drive) (rs : List MapRec) : (s.replaceRecords d rs).choices = s.choices := rfl

/-! ### `State.setQueued` -/

@[simp] theorem State.setQueued_mon (s : State) (d : Drive) (t : Track) : (s.setQueued d t).mon = s.mon := rfl
@[simp] theorem State.setQueued_side (s : State) (d : Drive) (t : Track) : (s.setQueued d t).side = s.side := rfl
@[simp] theorem State.setQueued_queues (s : State) (d : Drive) (t : Track) : (s.setQueued d t).queues = s.queues := rfl
@[simp] theorem State.setQueued_scans (s : State) (d : Drive) (t : Track) : (s.setQueued d t).scans = s.scans := rfl
@[simp] theorem State.setQueued_reserved (s : State) (d : Drive) (t : Track) : (s.setQueued d t).reserved = s.reserved := rfl
@[simp] theorem State.setQueued_ports (s : State) (d : Drive) (t : Track) : (s.setQueued d t).ports = s.ports := rfl
@[simp] theorem State.setQueued_gate (s : State) (d : Drive) (t : Track) : (s.setQueued d t).gate = s.gate := rfl
@[simp] theorem State.setQueued_lastWrite (s : State) (d : Drive) (t : Track) : (s.setQueued d t).lastWrite = s.lastWrite := rfl
@[simp] theorem State.setQueued_engine (s : State) (d : Drive) (t : Track) : (s.setQueued d t).engine = s.engine := rfl
@[simp] theorem State.setQueued_walk (s : State) (d : Drive) (t : Track) : (s.setQueued d t).walk = s.walk := rfl
@[simp] theorem State.setQueued_trackWalk (s : State) (d : Drive) (t : Track) : (s.setQueued d t).trackWalk = s.trackWalk := rfl
@[simp] theorem State.setQueued_notes (s : State) (d : Drive) (t : Track) : (s.setQueued d t).notes = s.notes := rfl
@[simp] theorem State.setQueued_relocQ (s : State) (d : Drive) (t : Track) : (s.setQueued d t).relocQ = s.relocQ := rfl
@[simp] theorem State.setQueued_reloc (s : State) (d : Drive) (t : Track) : (s.setQueued d t).reloc = s.reloc := rfl
@[simp] theorem State.setQueued_buffer (s : State) (d : Drive) (t : Track) : (s.setQueued d t).buffer = s.buffer := rfl
@[simp] theorem State.setQueued_map (s : State) (d : Drive) (t : Track) : (s.setQueued d t).map = s.map := rfl
@[simp] theorem State.setQueued_lastRead (s : State) (d : Drive) (t : Track) : (s.setQueued d t).lastRead = s.lastRead := rfl
@[simp] theorem State.setQueued_choices (s : State) (d : Drive) (t : Track) : (s.setQueued d t).choices = s.choices := rfl

/-! ### `State.thresholdTest` -/

@[simp] theorem State.thresholdTest_mon (s : State) (d : Drive) (t : Track) : (s.thresholdTest d t).mon = s.mon := by
  unfold State.thresholdTest
  repeat' split
  all_goals simp
@[simp] theorem State.thresholdTest_side (s : State) (d : Drive) (t : Track) : (s.thresholdTest d t).side = s.side := by
  unfold State.thresholdTest
  repeat' split
  all_goals simp
@[simp] theorem State.thresholdTest_queues (s : State) (d : Drive) (t : Track) : (s.thresholdTest d t).queues = s.queues := by
  unfold State.thresholdTest
  repeat' split
  all_goals simp
@[simp] theorem State.thresholdTest_scans (s : State) (d : Drive) (t : Track) : (s.thresholdTest d t).scans = s.scans := by
  unfold State.thresholdTest
  repeat' split
  all_goals simp
@[simp] theorem State.thresholdTest_reserved (s : State) (d : Drive) (t : Track) : (s.thresholdTest d t).reserved = s.reserved := by
  unfold State.thresholdTest
  repeat' split
  all_goals simp
@[simp] theorem State.thresholdTest_gate (s : State) (d : Drive) (t : Track) : (s.thresholdTest d t).gate = s.gate := by
  unfold State.thresholdTest
  repeat' split
  all_goals simp
@[simp] theorem State.thresholdTest_lastWrite (s : State) (d : Drive) (t : Track) : (s.thresholdTest d t).lastWrite = s.lastWrite := by
  unfold State.thresholdTest
  repeat' split
  all_goals simp
@[simp] theorem State.thresholdTest_engine (s : State) (d : Drive) (t : Track) : (s.thresholdTest d t).engine = s.engine := by
  unfold State.thresholdTest
  repeat' split
  all_goals simp
@[simp] theorem State.thresholdTest_walk (s : State) (d : Drive) (t : Track) : (s.thresholdTest d t).walk = s.walk := by
  unfold State.thresholdTest
  repeat' split
  all_goals simp
@[simp] theorem State.thresholdTest_trackWalk (s : State) (d : Drive) (t : Track) : (s.thresholdTest d t).trackWalk = s.trackWalk := by
  unfold State.thresholdTest
  repeat' split
  all_goals simp
@[simp] theorem State.thresholdTest_notes (s : State) (d : Drive) (t : Track) : (s.thresholdTest d t).notes = s.notes := by
  unfold State.thresholdTest
  repeat' split
  all_goals simp
@[simp] theorem State.thresholdTest_reloc (s : State) (d : Drive) (t : Track) : (s.thresholdTest d t).reloc = s.reloc := by
  unfold State.thresholdTest
  repeat' split
  all_goals simp
@[simp] theorem State.thresholdTest_buffer (s : State) (d : Drive) (t : Track) : (s.thresholdTest d t).buffer = s.buffer := by
  unfold State.thresholdTest
  repeat' split
  all_goals simp
@[simp] theorem State.thresholdTest_map (s : State) (d : Drive) (t : Track) : (s.thresholdTest d t).map = s.map := by
  unfold State.thresholdTest
  repeat' split
  all_goals simp
@[simp] theorem State.thresholdTest_lastRead (s : State) (d : Drive) (t : Track) : (s.thresholdTest d t).lastRead = s.lastRead := by
  unfold State.thresholdTest
  repeat' split
  all_goals simp
@[simp] theorem State.thresholdTest_choices (s : State) (d : Drive) (t : Track) : (s.thresholdTest d t).choices = s.choices := by
  unfold State.thresholdTest
  repeat' split
  all_goals simp

/-! ### `State.report` -/

@[simp] theorem State.report_mon (s : State) (d : Drive) (t : Track) (w : Nat) : (s.report d t w).mon = s.mon := by
  unfold State.report; split <;> simp
@[simp] theorem State.report_side (s : State) (d : Drive) (t : Track) (w : Nat) : (s.report d t w).side = s.side := by
  unfold State.report; split <;> simp
@[simp] theorem State.report_queues (s : State) (d : Drive) (t : Track) (w : Nat) : (s.report d t w).queues = s.queues := by
  unfold State.report; split <;> simp
@[simp] theorem State.report_scans (s : State) (d : Drive) (t : Track) (w : Nat) : (s.report d t w).scans = s.scans := by
  unfold State.report; split <;> simp
@[simp] theorem State.report_reserved (s : State) (d : Drive) (t : Track) (w : Nat) : (s.report d t w).reserved = s.reserved := by
  unfold State.report; split <;> simp
@[simp] theorem State.report_gate (s : State) (d : Drive) (t : Track) (w : Nat) : (s.report d t w).gate = s.gate := by
  unfold State.report; split <;> simp
@[simp] theorem State.report_lastWrite (s : State) (d : Drive) (t : Track) (w : Nat) : (s.report d t w).lastWrite = s.lastWrite := by
  unfold State.report; split <;> simp
@[simp] theorem State.report_engine (s : State) (d : Drive) (t : Track) (w : Nat) : (s.report d t w).engine = s.engine := by
  unfold State.report; split <;> simp
@[simp] theorem State.report_walk (s : State) (d : Drive) (t : Track) (w : Nat) : (s.report d t w).walk = s.walk := by
  unfold State.report; split <;> simp
@[simp] theorem State.report_trackWalk (s : State) (d : Drive) (t : Track) (w : Nat) : (s.report d t w).trackWalk = s.trackWalk := by
  unfold State.report; split <;> simp
@[simp] theorem State.report_notes (s : State) (d : Drive) (t : Track) (w : Nat) : (s.report d t w).notes = s.notes := by
  unfold State.report; split <;> simp
@[simp] theorem State.report_reloc (s : State) (d : Drive) (t : Track) (w : Nat) : (s.report d t w).reloc = s.reloc := by
  unfold State.report; split <;> simp
@[simp] theorem State.report_buffer (s : State) (d : Drive) (t : Track) (w : Nat) : (s.report d t w).buffer = s.buffer := by
  unfold State.report; split <;> simp
@[simp] theorem State.report_map (s : State) (d : Drive) (t : Track) (w : Nat) : (s.report d t w).map = s.map := by
  unfold State.report; split <;> simp
@[simp] theorem State.report_lastRead (s : State) (d : Drive) (t : Track) (w : Nat) : (s.report d t w).lastRead = s.lastRead := by
  unfold State.report; split <;> simp
@[simp] theorem State.report_choices (s : State) (d : Drive) (t : Track) (w : Nat) : (s.report d t w).choices = s.choices := by
  unfold State.report; split <;> simp

/-! ### `State.forHome` -/

@[simp] theorem State.forHome_mon (s : State) (d : Drive) (home : Track) (f : WatchEntry → WatchEntry) : (s.forHome d home f).mon = s.mon := rfl
@[simp] theorem State.forHome_side (s : State) (d : Drive) (home : Track) (f : WatchEntry → WatchEntry) : (s.forHome d home f).side = s.side := rfl
@[simp] theorem State.forHome_queues (s : State) (d : Drive) (home : Track) (f : WatchEntry → WatchEntry) : (s.forHome d home f).queues = s.queues := rfl
@[simp] theorem State.forHome_scans (s : State) (d : Drive) (home : Track) (f : WatchEntry → WatchEntry) : (s.forHome d home f).scans = s.scans := rfl
@[simp] theorem State.forHome_reserved (s : State) (d : Drive) (home : Track) (f : WatchEntry → WatchEntry) : (s.forHome d home f).reserved = s.reserved := rfl
@[simp] theorem State.forHome_ports (s : State) (d : Drive) (home : Track) (f : WatchEntry → WatchEntry) : (s.forHome d home f).ports = s.ports := rfl
@[simp] theorem State.forHome_gate (s : State) (d : Drive) (home : Track) (f : WatchEntry → WatchEntry) : (s.forHome d home f).gate = s.gate := rfl
@[simp] theorem State.forHome_lastWrite (s : State) (d : Drive) (home : Track) (f : WatchEntry → WatchEntry) : (s.forHome d home f).lastWrite = s.lastWrite := rfl
@[simp] theorem State.forHome_engine (s : State) (d : Drive) (home : Track) (f : WatchEntry → WatchEntry) : (s.forHome d home f).engine = s.engine := rfl
@[simp] theorem State.forHome_walk (s : State) (d : Drive) (home : Track) (f : WatchEntry → WatchEntry) : (s.forHome d home f).walk = s.walk := rfl
@[simp] theorem State.forHome_trackWalk (s : State) (d : Drive) (home : Track) (f : WatchEntry → WatchEntry) : (s.forHome d home f).trackWalk = s.trackWalk := rfl
@[simp] theorem State.forHome_notes (s : State) (d : Drive) (home : Track) (f : WatchEntry → WatchEntry) : (s.forHome d home f).notes = s.notes := rfl
@[simp] theorem State.forHome_relocQ (s : State) (d : Drive) (home : Track) (f : WatchEntry → WatchEntry) : (s.forHome d home f).relocQ = s.relocQ := rfl
@[simp] theorem State.forHome_reloc (s : State) (d : Drive) (home : Track) (f : WatchEntry → WatchEntry) : (s.forHome d home f).reloc = s.reloc := rfl
@[simp] theorem State.forHome_buffer (s : State) (d : Drive) (home : Track) (f : WatchEntry → WatchEntry) : (s.forHome d home f).buffer = s.buffer := rfl
@[simp] theorem State.forHome_map (s : State) (d : Drive) (home : Track) (f : WatchEntry → WatchEntry) : (s.forHome d home f).map = s.map := rfl
@[simp] theorem State.forHome_lastRead (s : State) (d : Drive) (home : Track) (f : WatchEntry → WatchEntry) : (s.forHome d home f).lastRead = s.lastRead := rfl
@[simp] theorem State.forHome_choices (s : State) (d : Drive) (home : Track) (f : WatchEntry → WatchEntry) : (s.forHome d home f).choices = s.choices := rfl

/-! ### `State.leaveWalk` -/

@[simp] theorem State.leaveWalk_mon (s : State) (d : Drive) (sec : Nat) : (s.leaveWalk d sec).mon = s.mon := by
  unfold State.leaveWalk; dsimp only
  repeat' split
  all_goals simp
@[simp] theorem State.leaveWalk_side (s : State) (d : Drive) (sec : Nat) : (s.leaveWalk d sec).side = s.side := by
  unfold State.leaveWalk; dsimp only
  repeat' split
  all_goals simp
@[simp] theorem State.leaveWalk_queues (s : State) (d : Drive) (sec : Nat) : (s.leaveWalk d sec).queues = s.queues := by
  unfold State.leaveWalk; dsimp only
  repeat' split
  all_goals simp
@[simp] theorem State.leaveWalk_scans (s : State) (d : Drive) (sec : Nat) : (s.leaveWalk d sec).scans = s.scans := by
  unfold State.leaveWalk; dsimp only
  repeat' split
  all_goals simp
@[simp] theorem State.leaveWalk_reserved (s : State) (d : Drive) (sec : Nat) : (s.leaveWalk d sec).reserved = s.reserved := by
  unfold State.leaveWalk; dsimp only
  repeat' split
  all_goals simp
@[simp] theorem State.leaveWalk_ports (s : State) (d : Drive) (sec : Nat) : (s.leaveWalk d sec).ports = s.ports := by
  unfold State.leaveWalk; dsimp only
  repeat' split
  all_goals simp
@[simp] theorem State.leaveWalk_gate (s : State) (d : Drive) (sec : Nat) : (s.leaveWalk d sec).gate = s.gate := by
  unfold State.leaveWalk; dsimp only
  repeat' split
  all_goals simp
@[simp] theorem State.leaveWalk_lastWrite (s : State) (d : Drive) (sec : Nat) : (s.leaveWalk d sec).lastWrite = s.lastWrite := by
  unfold State.leaveWalk; dsimp only
  repeat' split
  all_goals simp
@[simp] theorem State.leaveWalk_engine (s : State) (d : Drive) (sec : Nat) : (s.leaveWalk d sec).engine = s.engine := by
  unfold State.leaveWalk; dsimp only
  repeat' split
  all_goals simp
@[simp] theorem State.leaveWalk_walk (s : State) (d : Drive) (sec : Nat) : (s.leaveWalk d sec).walk = s.walk := by
  unfold State.leaveWalk; dsimp only
  repeat' split
  all_goals simp
@[simp] theorem State.leaveWalk_notes (s : State) (d : Drive) (sec : Nat) : (s.leaveWalk d sec).notes = s.notes := by
  unfold State.leaveWalk; dsimp only
  repeat' split
  all_goals simp
@[simp] theorem State.leaveWalk_watch (s : State) (d : Drive) (sec : Nat) : (s.leaveWalk d sec).watch = s.watch := by
  unfold State.leaveWalk; dsimp only
  repeat' split
  all_goals simp
@[simp] theorem State.leaveWalk_relocQ (s : State) (d : Drive) (sec : Nat) : (s.leaveWalk d sec).relocQ = s.relocQ := by
  unfold State.leaveWalk; dsimp only
  repeat' split
  all_goals simp
@[simp] theorem State.leaveWalk_reloc (s : State) (d : Drive) (sec : Nat) : (s.leaveWalk d sec).reloc = s.reloc := by
  unfold State.leaveWalk; dsimp only
  repeat' split
  all_goals simp
@[simp] theorem State.leaveWalk_buffer (s : State) (d : Drive) (sec : Nat) : (s.leaveWalk d sec).buffer = s.buffer := by
  unfold State.leaveWalk; dsimp only
  repeat' split
  all_goals simp
@[simp] theorem State.leaveWalk_map (s : State) (d : Drive) (sec : Nat) : (s.leaveWalk d sec).map = s.map := by
  unfold State.leaveWalk; dsimp only
  repeat' split
  all_goals simp
@[simp] theorem State.leaveWalk_lastRead (s : State) (d : Drive) (sec : Nat) : (s.leaveWalk d sec).lastRead = s.lastRead := by
  unfold State.leaveWalk; dsimp only
  repeat' split
  all_goals simp
@[simp] theorem State.leaveWalk_choices (s : State) (d : Drive) (sec : Nat) : (s.leaveWalk d sec).choices = s.choices := by
  unfold State.leaveWalk; dsimp only
  repeat' split
  all_goals simp

/-! ### `State.offerWrite` -/

@[simp] theorem State.offerWrite_mon (s : State) (d : Drive) (t : Track) (sec : Nat) (bytes : List Byte) : (s.offerWrite d t sec bytes).mon = s.mon := by
  unfold State.offerWrite; dsimp only
  repeat' split
  all_goals simp
@[simp] theorem State.offerWrite_side (s : State) (d : Drive) (t : Track) (sec : Nat) (bytes : List Byte) : (s.offerWrite d t sec bytes).side = s.side := by
  unfold State.offerWrite; dsimp only
  repeat' split
  all_goals simp
@[simp] theorem State.offerWrite_queues (s : State) (d : Drive) (t : Track) (sec : Nat) (bytes : List Byte) : (s.offerWrite d t sec bytes).queues = s.queues := by
  unfold State.offerWrite; dsimp only
  repeat' split
  all_goals simp
@[simp] theorem State.offerWrite_scans (s : State) (d : Drive) (t : Track) (sec : Nat) (bytes : List Byte) : (s.offerWrite d t sec bytes).scans = s.scans := by
  unfold State.offerWrite; dsimp only
  repeat' split
  all_goals simp
@[simp] theorem State.offerWrite_reserved (s : State) (d : Drive) (t : Track) (sec : Nat) (bytes : List Byte) : (s.offerWrite d t sec bytes).reserved = s.reserved := by
  unfold State.offerWrite; dsimp only
  repeat' split
  all_goals simp
@[simp] theorem State.offerWrite_ports (s : State) (d : Drive) (t : Track) (sec : Nat) (bytes : List Byte) : (s.offerWrite d t sec bytes).ports = s.ports := by
  unfold State.offerWrite; dsimp only
  repeat' split
  all_goals simp
@[simp] theorem State.offerWrite_gate (s : State) (d : Drive) (t : Track) (sec : Nat) (bytes : List Byte) : (s.offerWrite d t sec bytes).gate = s.gate := by
  unfold State.offerWrite; dsimp only
  repeat' split
  all_goals simp
@[simp] theorem State.offerWrite_lastWrite (s : State) (d : Drive) (t : Track) (sec : Nat) (bytes : List Byte) : (s.offerWrite d t sec bytes).lastWrite = s.lastWrite := by
  unfold State.offerWrite; dsimp only
  repeat' split
  all_goals simp
@[simp] theorem State.offerWrite_engine (s : State) (d : Drive) (t : Track) (sec : Nat) (bytes : List Byte) : (s.offerWrite d t sec bytes).engine = s.engine := by
  unfold State.offerWrite; dsimp only
  repeat' split
  all_goals simp
@[simp] theorem State.offerWrite_walk (s : State) (d : Drive) (t : Track) (sec : Nat) (bytes : List Byte) : (s.offerWrite d t sec bytes).walk = s.walk := by
  unfold State.offerWrite; dsimp only
  repeat' split
  all_goals simp
@[simp] theorem State.offerWrite_notes (s : State) (d : Drive) (t : Track) (sec : Nat) (bytes : List Byte) : (s.offerWrite d t sec bytes).notes = s.notes := by
  unfold State.offerWrite; dsimp only
  repeat' split
  all_goals simp
@[simp] theorem State.offerWrite_watch (s : State) (d : Drive) (t : Track) (sec : Nat) (bytes : List Byte) : (s.offerWrite d t sec bytes).watch = s.watch := by
  unfold State.offerWrite; dsimp only
  repeat' split
  all_goals simp
@[simp] theorem State.offerWrite_relocQ (s : State) (d : Drive) (t : Track) (sec : Nat) (bytes : List Byte) : (s.offerWrite d t sec bytes).relocQ = s.relocQ := by
  unfold State.offerWrite; dsimp only
  repeat' split
  all_goals simp
@[simp] theorem State.offerWrite_reloc (s : State) (d : Drive) (t : Track) (sec : Nat) (bytes : List Byte) : (s.offerWrite d t sec bytes).reloc = s.reloc := by
  unfold State.offerWrite; dsimp only
  repeat' split
  all_goals simp
@[simp] theorem State.offerWrite_map (s : State) (d : Drive) (t : Track) (sec : Nat) (bytes : List Byte) : (s.offerWrite d t sec bytes).map = s.map := by
  unfold State.offerWrite; dsimp only
  repeat' split
  all_goals simp
@[simp] theorem State.offerWrite_lastRead (s : State) (d : Drive) (t : Track) (sec : Nat) (bytes : List Byte) : (s.offerWrite d t sec bytes).lastRead = s.lastRead := by
  unfold State.offerWrite; dsimp only
  repeat' split
  all_goals simp
@[simp] theorem State.offerWrite_choices (s : State) (d : Drive) (t : Track) (sec : Nat) (bytes : List Byte) : (s.offerWrite d t sec bytes).choices = s.choices := by
  unfold State.offerWrite; dsimp only
  repeat' split
  all_goals simp

/-! ### `State.updReq` -/

@[simp] theorem State.updReq_mon (s : State) (d : Drive) (p : Path) (t : Tag) (f : Request → Request) : (s.updReq d p t f).mon = s.mon := rfl
@[simp] theorem State.updReq_side (s : State) (d : Drive) (p : Path) (t : Tag) (f : Request → Request) : (s.updReq d p t f).side = s.side := rfl
@[simp] theorem State.updReq_scans (s : State) (d : Drive) (p : Path) (t : Tag) (f : Request → Request) : (s.updReq d p t f).scans = s.scans := rfl
@[simp] theorem State.updReq_reserved (s : State) (d : Drive) (p : Path) (t : Tag) (f : Request → Request) : (s.updReq d p t f).reserved = s.reserved := rfl
@[simp] theorem State.updReq_ports (s : State) (d : Drive) (p : Path) (t : Tag) (f : Request → Request) : (s.updReq d p t f).ports = s.ports := rfl
@[simp] theorem State.updReq_gate (s : State) (d : Drive) (p : Path) (t : Tag) (f : Request → Request) : (s.updReq d p t f).gate = s.gate := rfl
@[simp] theorem State.updReq_lastWrite (s : State) (d : Drive) (p : Path) (t : Tag) (f : Request → Request) : (s.updReq d p t f).lastWrite = s.lastWrite := rfl
@[simp] theorem State.updReq_engine (s : State) (d : Drive) (p : Path) (t : Tag) (f : Request → Request) : (s.updReq d p t f).engine = s.engine := rfl
@[simp] theorem State.updReq_walk (s : State) (d : Drive) (p : Path) (t : Tag) (f : Request → Request) : (s.updReq d p t f).walk = s.walk := rfl
@[simp] theorem State.updReq_trackWalk (s : State) (d : Drive) (p : Path) (t : Tag) (f : Request → Request) : (s.updReq d p t f).trackWalk = s.trackWalk := rfl
@[simp] theorem State.updReq_notes (s : State) (d : Drive) (p : Path) (t : Tag) (f : Request → Request) : (s.updReq d p t f).notes = s.notes := rfl
@[simp] theorem State.updReq_watch (s : State) (d : Drive) (p : Path) (t : Tag) (f : Request → Request) : (s.updReq d p t f).watch = s.watch := rfl
@[simp] theorem State.updReq_relocQ (s : State) (d : Drive) (p : Path) (t : Tag) (f : Request → Request) : (s.updReq d p t f).relocQ = s.relocQ := rfl
@[simp] theorem State.updReq_reloc (s : State) (d : Drive) (p : Path) (t : Tag) (f : Request → Request) : (s.updReq d p t f).reloc = s.reloc := rfl
@[simp] theorem State.updReq_buffer (s : State) (d : Drive) (p : Path) (t : Tag) (f : Request → Request) : (s.updReq d p t f).buffer = s.buffer := rfl
@[simp] theorem State.updReq_map (s : State) (d : Drive) (p : Path) (t : Tag) (f : Request → Request) : (s.updReq d p t f).map = s.map := rfl
@[simp] theorem State.updReq_lastRead (s : State) (d : Drive) (p : Path) (t : Tag) (f : Request → Request) : (s.updReq d p t f).lastRead = s.lastRead := rfl
@[simp] theorem State.updReq_choices (s : State) (d : Drive) (p : Path) (t : Tag) (f : Request → Request) : (s.updReq d p t f).choices = s.choices := rfl

/-! ### `State.offer` -/

@[simp] theorem State.offer_mon (s : State) (w : Work) : (s.offer w).mon = s.mon := by
  unfold State.offer; split <;> simp
@[simp] theorem State.offer_side (s : State) (w : Work) : (s.offer w).side = s.side := by
  unfold State.offer; split <;> simp
@[simp] theorem State.offer_queues (s : State) (w : Work) : (s.offer w).queues = s.queues := by
  unfold State.offer; split <;> simp
@[simp] theorem State.offer_scans (s : State) (w : Work) : (s.offer w).scans = s.scans := by
  unfold State.offer; split <;> simp
@[simp] theorem State.offer_reserved (s : State) (w : Work) : (s.offer w).reserved = s.reserved := by
  unfold State.offer; split <;> simp
@[simp] theorem State.offer_ports (s : State) (w : Work) : (s.offer w).ports = s.ports := by
  unfold State.offer; split <;> simp
@[simp] theorem State.offer_gate (s : State) (w : Work) : (s.offer w).gate = s.gate := by
  unfold State.offer; split <;> simp
@[simp] theorem State.offer_lastWrite (s : State) (w : Work) : (s.offer w).lastWrite = s.lastWrite := by
  unfold State.offer; split <;> simp
@[simp] theorem State.offer_walk (s : State) (w : Work) : (s.offer w).walk = s.walk := by
  unfold State.offer; split <;> simp
@[simp] theorem State.offer_trackWalk (s : State) (w : Work) : (s.offer w).trackWalk = s.trackWalk := by
  unfold State.offer; split <;> simp
@[simp] theorem State.offer_notes (s : State) (w : Work) : (s.offer w).notes = s.notes := by
  unfold State.offer; split <;> simp
@[simp] theorem State.offer_watch (s : State) (w : Work) : (s.offer w).watch = s.watch := by
  unfold State.offer; split <;> simp
@[simp] theorem State.offer_relocQ (s : State) (w : Work) : (s.offer w).relocQ = s.relocQ := by
  unfold State.offer; split <;> simp
@[simp] theorem State.offer_reloc (s : State) (w : Work) : (s.offer w).reloc = s.reloc := by
  unfold State.offer; split <;> simp
@[simp] theorem State.offer_buffer (s : State) (w : Work) : (s.offer w).buffer = s.buffer := by
  unfold State.offer; split <;> simp
@[simp] theorem State.offer_map (s : State) (w : Work) : (s.offer w).map = s.map := by
  unfold State.offer; split <;> simp
@[simp] theorem State.offer_lastRead (s : State) (w : Work) : (s.offer w).lastRead = s.lastRead := by
  unfold State.offer; split <;> simp
@[simp] theorem State.offer_choices (s : State) (w : Work) : (s.offer w).choices = s.choices := by
  unfold State.offer; split <;> simp

/-! ### `State.unoffer` -/

@[simp] theorem State.unoffer_mon (s : State) (w : Work) : (s.unoffer w).mon = s.mon := rfl
@[simp] theorem State.unoffer_side (s : State) (w : Work) : (s.unoffer w).side = s.side := rfl
@[simp] theorem State.unoffer_queues (s : State) (w : Work) : (s.unoffer w).queues = s.queues := rfl
@[simp] theorem State.unoffer_scans (s : State) (w : Work) : (s.unoffer w).scans = s.scans := rfl
@[simp] theorem State.unoffer_reserved (s : State) (w : Work) : (s.unoffer w).reserved = s.reserved := rfl
@[simp] theorem State.unoffer_ports (s : State) (w : Work) : (s.unoffer w).ports = s.ports := rfl
@[simp] theorem State.unoffer_gate (s : State) (w : Work) : (s.unoffer w).gate = s.gate := rfl
@[simp] theorem State.unoffer_lastWrite (s : State) (w : Work) : (s.unoffer w).lastWrite = s.lastWrite := rfl
@[simp] theorem State.unoffer_walk (s : State) (w : Work) : (s.unoffer w).walk = s.walk := rfl
@[simp] theorem State.unoffer_trackWalk (s : State) (w : Work) : (s.unoffer w).trackWalk = s.trackWalk := rfl
@[simp] theorem State.unoffer_notes (s : State) (w : Work) : (s.unoffer w).notes = s.notes := rfl
@[simp] theorem State.unoffer_watch (s : State) (w : Work) : (s.unoffer w).watch = s.watch := rfl
@[simp] theorem State.unoffer_relocQ (s : State) (w : Work) : (s.unoffer w).relocQ = s.relocQ := rfl
@[simp] theorem State.unoffer_reloc (s : State) (w : Work) : (s.unoffer w).reloc = s.reloc := rfl
@[simp] theorem State.unoffer_buffer (s : State) (w : Work) : (s.unoffer w).buffer = s.buffer := rfl
@[simp] theorem State.unoffer_map (s : State) (w : Work) : (s.unoffer w).map = s.map := rfl
@[simp] theorem State.unoffer_lastRead (s : State) (w : Work) : (s.unoffer w).lastRead = s.lastRead := rfl
@[simp] theorem State.unoffer_choices (s : State) (w : Work) : (s.unoffer w).choices = s.choices := rfl

/-! ### `State.releaseEngine` -/

@[simp] theorem State.releaseEngine_mon (s : State) : (s.releaseEngine).mon = s.mon := rfl
@[simp] theorem State.releaseEngine_side (s : State) : (s.releaseEngine).side = s.side := rfl
@[simp] theorem State.releaseEngine_queues (s : State) : (s.releaseEngine).queues = s.queues := rfl
@[simp] theorem State.releaseEngine_scans (s : State) : (s.releaseEngine).scans = s.scans := rfl
@[simp] theorem State.releaseEngine_reserved (s : State) : (s.releaseEngine).reserved = s.reserved := rfl
@[simp] theorem State.releaseEngine_ports (s : State) : (s.releaseEngine).ports = s.ports := rfl
@[simp] theorem State.releaseEngine_gate (s : State) : (s.releaseEngine).gate = s.gate := rfl
@[simp] theorem State.releaseEngine_lastWrite (s : State) : (s.releaseEngine).lastWrite = s.lastWrite := rfl
@[simp] theorem State.releaseEngine_walk (s : State) : (s.releaseEngine).walk = s.walk := rfl
@[simp] theorem State.releaseEngine_trackWalk (s : State) : (s.releaseEngine).trackWalk = s.trackWalk := rfl
@[simp] theorem State.releaseEngine_notes (s : State) : (s.releaseEngine).notes = s.notes := rfl
@[simp] theorem State.releaseEngine_watch (s : State) : (s.releaseEngine).watch = s.watch := rfl
@[simp] theorem State.releaseEngine_relocQ (s : State) : (s.releaseEngine).relocQ = s.relocQ := rfl
@[simp] theorem State.releaseEngine_reloc (s : State) : (s.releaseEngine).reloc = s.reloc := rfl
@[simp] theorem State.releaseEngine_buffer (s : State) : (s.releaseEngine).buffer = s.buffer := rfl
@[simp] theorem State.releaseEngine_map (s : State) : (s.releaseEngine).map = s.map := rfl
@[simp] theorem State.releaseEngine_lastRead (s : State) : (s.releaseEngine).lastRead = s.lastRead := rfl
@[simp] theorem State.releaseEngine_choices (s : State) : (s.releaseEngine).choices = s.choices := rfl

/-! ### `State.detach` -/

@[simp] theorem State.detach_mon (s : State) (d : Drive) (p : Path) (t : Tag) : (s.detach d p t).mon = s.mon := by
  unfold State.detach; dsimp only
  repeat' split
  all_goals simp
@[simp] theorem State.detach_side (s : State) (d : Drive) (p : Path) (t : Tag) : (s.detach d p t).side = s.side := by
  unfold State.detach; dsimp only
  repeat' split
  all_goals simp
@[simp] theorem State.detach_queues (s : State) (d : Drive) (p : Path) (t : Tag) : (s.detach d p t).queues = s.queues := by
  unfold State.detach; dsimp only
  repeat' split
  all_goals simp
@[simp] theorem State.detach_scans (s : State) (d : Drive) (p : Path) (t : Tag) : (s.detach d p t).scans = s.scans := by
  unfold State.detach; dsimp only
  repeat' split
  all_goals simp
@[simp] theorem State.detach_reserved (s : State) (d : Drive) (p : Path) (t : Tag) : (s.detach d p t).reserved = s.reserved := by
  unfold State.detach; dsimp only
  repeat' split
  all_goals simp
@[simp] theorem State.detach_lastWrite (s : State) (d : Drive) (p : Path) (t : Tag) : (s.detach d p t).lastWrite = s.lastWrite := by
  unfold State.detach; dsimp only
  repeat' split
  all_goals simp
@[simp] theorem State.detach_trackWalk (s : State) (d : Drive) (p : Path) (t : Tag) : (s.detach d p t).trackWalk = s.trackWalk := by
  unfold State.detach; dsimp only
  repeat' split
  all_goals simp
@[simp] theorem State.detach_notes (s : State) (d : Drive) (p : Path) (t : Tag) : (s.detach d p t).notes = s.notes := by
  unfold State.detach; dsimp only
  repeat' split
  all_goals simp
@[simp] theorem State.detach_watch (s : State) (d : Drive) (p : Path) (t : Tag) : (s.detach d p t).watch = s.watch := by
  unfold State.detach; dsimp only
  repeat' split
  all_goals simp
@[simp] theorem State.detach_relocQ (s : State) (d : Drive) (p : Path) (t : Tag) : (s.detach d p t).relocQ = s.relocQ := by
  unfold State.detach; dsimp only
  repeat' split
  all_goals simp
@[simp] theorem State.detach_reloc (s : State) (d : Drive) (p : Path) (t : Tag) : (s.detach d p t).reloc = s.reloc := by
  unfold State.detach; dsimp only
  repeat' split
  all_goals simp
@[simp] theorem State.detach_buffer (s : State) (d : Drive) (p : Path) (t : Tag) : (s.detach d p t).buffer = s.buffer := by
  unfold State.detach; dsimp only
  repeat' split
  all_goals simp
@[simp] theorem State.detach_map (s : State) (d : Drive) (p : Path) (t : Tag) : (s.detach d p t).map = s.map := by
  unfold State.detach; dsimp only
  repeat' split
  all_goals simp
@[simp] theorem State.detach_lastRead (s : State) (d : Drive) (p : Path) (t : Tag) : (s.detach d p t).lastRead = s.lastRead := by
  unfold State.detach; dsimp only
  repeat' split
  all_goals simp
@[simp] theorem State.detach_choices (s : State) (d : Drive) (p : Path) (t : Tag) : (s.detach d p t).choices = s.choices := by
  unfold State.detach; dsimp only
  repeat' split
  all_goals simp

/-! ### `State.endRequest` -/

@[simp] theorem State.endRequest_mon (s : State) (d : Drive) (r : Request) (e : Ending) : (s.endRequest d r e).mon = s.mon := by
  unfold State.endRequest; split <;> simp
@[simp] theorem State.endRequest_side (s : State) (d : Drive) (r : Request) (e : Ending) : (s.endRequest d r e).side = s.side := by
  unfold State.endRequest; split <;> simp
@[simp] theorem State.endRequest_scans (s : State) (d : Drive) (r : Request) (e : Ending) : (s.endRequest d r e).scans = s.scans := by
  unfold State.endRequest; split <;> simp
@[simp] theorem State.endRequest_reserved (s : State) (d : Drive) (r : Request) (e : Ending) : (s.endRequest d r e).reserved = s.reserved := by
  unfold State.endRequest; split <;> simp
@[simp] theorem State.endRequest_lastWrite (s : State) (d : Drive) (r : Request) (e : Ending) : (s.endRequest d r e).lastWrite = s.lastWrite := by
  unfold State.endRequest; split <;> simp
@[simp] theorem State.endRequest_trackWalk (s : State) (d : Drive) (r : Request) (e : Ending) : (s.endRequest d r e).trackWalk = s.trackWalk := by
  unfold State.endRequest; split <;> simp
@[simp] theorem State.endRequest_notes (s : State) (d : Drive) (r : Request) (e : Ending) : (s.endRequest d r e).notes = s.notes := by
  unfold State.endRequest; split <;> simp
@[simp] theorem State.endRequest_watch (s : State) (d : Drive) (r : Request) (e : Ending) : (s.endRequest d r e).watch = s.watch := by
  unfold State.endRequest; split <;> simp
@[simp] theorem State.endRequest_relocQ (s : State) (d : Drive) (r : Request) (e : Ending) : (s.endRequest d r e).relocQ = s.relocQ := by
  unfold State.endRequest; split <;> simp
@[simp] theorem State.endRequest_reloc (s : State) (d : Drive) (r : Request) (e : Ending) : (s.endRequest d r e).reloc = s.reloc := by
  unfold State.endRequest; split <;> simp
@[simp] theorem State.endRequest_buffer (s : State) (d : Drive) (r : Request) (e : Ending) : (s.endRequest d r e).buffer = s.buffer := by
  unfold State.endRequest; split <;> simp
@[simp] theorem State.endRequest_map (s : State) (d : Drive) (r : Request) (e : Ending) : (s.endRequest d r e).map = s.map := by
  unfold State.endRequest; split <;> simp
@[simp] theorem State.endRequest_lastRead (s : State) (d : Drive) (r : Request) (e : Ending) : (s.endRequest d r e).lastRead = s.lastRead := by
  unfold State.endRequest; split <;> simp
@[simp] theorem State.endRequest_choices (s : State) (d : Drive) (r : Request) (e : Ending) : (s.endRequest d r e).choices = s.choices := by
  unfold State.endRequest; split <;> simp

/-! ### `State.endWith` -/

@[simp] theorem State.endWith_mon (s : State) (d : Drive) (code : Code) (r : Request) : (s.endWith d code r).mon = s.mon := by
  simp [State.endWith]
@[simp] theorem State.endWith_side (s : State) (d : Drive) (code : Code) (r : Request) : (s.endWith d code r).side = s.side := by
  simp [State.endWith]
@[simp] theorem State.endWith_scans (s : State) (d : Drive) (code : Code) (r : Request) : (s.endWith d code r).scans = s.scans := by
  simp [State.endWith]
@[simp] theorem State.endWith_reserved (s : State) (d : Drive) (code : Code) (r : Request) : (s.endWith d code r).reserved = s.reserved := by
  simp [State.endWith]
@[simp] theorem State.endWith_lastWrite (s : State) (d : Drive) (code : Code) (r : Request) : (s.endWith d code r).lastWrite = s.lastWrite := by
  simp [State.endWith]
@[simp] theorem State.endWith_trackWalk (s : State) (d : Drive) (code : Code) (r : Request) : (s.endWith d code r).trackWalk = s.trackWalk := by
  simp [State.endWith]
@[simp] theorem State.endWith_notes (s : State) (d : Drive) (code : Code) (r : Request) : (s.endWith d code r).notes = s.notes := by
  simp [State.endWith]
@[simp] theorem State.endWith_watch (s : State) (d : Drive) (code : Code) (r : Request) : (s.endWith d code r).watch = s.watch := by
  simp [State.endWith]
@[simp] theorem State.endWith_relocQ (s : State) (d : Drive) (code : Code) (r : Request) : (s.endWith d code r).relocQ = s.relocQ := by
  simp [State.endWith]
@[simp] theorem State.endWith_reloc (s : State) (d : Drive) (code : Code) (r : Request) : (s.endWith d code r).reloc = s.reloc := by
  simp [State.endWith]
@[simp] theorem State.endWith_buffer (s : State) (d : Drive) (code : Code) (r : Request) : (s.endWith d code r).buffer = s.buffer := by
  simp [State.endWith]
@[simp] theorem State.endWith_map (s : State) (d : Drive) (code : Code) (r : Request) : (s.endWith d code r).map = s.map := by
  simp [State.endWith]
@[simp] theorem State.endWith_lastRead (s : State) (d : Drive) (code : Code) (r : Request) : (s.endWith d code r).lastRead = s.lastRead := by
  simp [State.endWith]
@[simp] theorem State.endWith_choices (s : State) (d : Drive) (code : Code) (r : Request) : (s.endWith d code r).choices = s.choices := by
  simp [State.endWith]

/-! ### `State.takeMiss` -/

@[simp] theorem State.takeMiss_scans (s : State) (d : Drive) : (s.takeMiss d).scans = s.scans := by
  unfold State.takeMiss; dsimp only
  repeat' split
  all_goals simp
@[simp] theorem State.takeMiss_reserved (s : State) (d : Drive) : (s.takeMiss d).reserved = s.reserved := by
  unfold State.takeMiss; dsimp only
  repeat' split
  all_goals simp
@[simp] theorem State.takeMiss_lastWrite (s : State) (d : Drive) : (s.takeMiss d).lastWrite = s.lastWrite := by
  unfold State.takeMiss; dsimp only
  repeat' split
  all_goals simp
@[simp] theorem State.takeMiss_trackWalk (s : State) (d : Drive) : (s.takeMiss d).trackWalk = s.trackWalk := by
  unfold State.takeMiss; dsimp only
  repeat' split
  all_goals simp
@[simp] theorem State.takeMiss_notes (s : State) (d : Drive) : (s.takeMiss d).notes = s.notes := by
  unfold State.takeMiss; dsimp only
  repeat' split
  all_goals simp
@[simp] theorem State.takeMiss_watch (s : State) (d : Drive) : (s.takeMiss d).watch = s.watch := by
  unfold State.takeMiss; dsimp only
  repeat' split
  all_goals simp
@[simp] theorem State.takeMiss_relocQ (s : State) (d : Drive) : (s.takeMiss d).relocQ = s.relocQ := by
  unfold State.takeMiss; dsimp only
  repeat' split
  all_goals simp
@[simp] theorem State.takeMiss_reloc (s : State) (d : Drive) : (s.takeMiss d).reloc = s.reloc := by
  unfold State.takeMiss; dsimp only
  repeat' split
  all_goals simp
@[simp] theorem State.takeMiss_buffer (s : State) (d : Drive) : (s.takeMiss d).buffer = s.buffer := by
  unfold State.takeMiss; dsimp only
  repeat' split
  all_goals simp
@[simp] theorem State.takeMiss_map (s : State) (d : Drive) : (s.takeMiss d).map = s.map := by
  unfold State.takeMiss; dsimp only
  repeat' split
  all_goals simp
@[simp] theorem State.takeMiss_lastRead (s : State) (d : Drive) : (s.takeMiss d).lastRead = s.lastRead := by
  unfold State.takeMiss; dsimp only
  repeat' split
  all_goals simp
@[simp] theorem State.takeMiss_choices (s : State) (d : Drive) : (s.takeMiss d).choices = s.choices := by
  unfold State.takeMiss; dsimp only
  repeat' split
  all_goals simp

/-! ### `State.clearEngineOf` -/

@[simp] theorem State.clearEngineOf_mon (s : State) (d : Drive) : (s.clearEngineOf d).mon = s.mon := by
  unfold State.clearEngineOf; split <;> simp
@[simp] theorem State.clearEngineOf_side (s : State) (d : Drive) : (s.clearEngineOf d).side = s.side := by
  unfold State.clearEngineOf; split <;> simp
@[simp] theorem State.clearEngineOf_queues (s : State) (d : Drive) : (s.clearEngineOf d).queues = s.queues := by
  unfold State.clearEngineOf; split <;> simp
@[simp] theorem State.clearEngineOf_scans (s : State) (d : Drive) : (s.clearEngineOf d).scans = s.scans := by
  unfold State.clearEngineOf; split <;> simp
@[simp] theorem State.clearEngineOf_reserved (s : State) (d : Drive) : (s.clearEngineOf d).reserved = s.reserved := by
  unfold State.clearEngineOf; split <;> simp
@[simp] theorem State.clearEngineOf_ports (s : State) (d : Drive) : (s.clearEngineOf d).ports = s.ports := by
  unfold State.clearEngineOf; split <;> simp
@[simp] theorem State.clearEngineOf_lastWrite (s : State) (d : Drive) : (s.clearEngineOf d).lastWrite = s.lastWrite := by
  unfold State.clearEngineOf; split <;> simp
@[simp] theorem State.clearEngineOf_walk (s : State) (d : Drive) : (s.clearEngineOf d).walk = s.walk := by
  unfold State.clearEngineOf; split <;> simp
@[simp] theorem State.clearEngineOf_trackWalk (s : State) (d : Drive) : (s.clearEngineOf d).trackWalk = s.trackWalk := by
  unfold State.clearEngineOf; split <;> simp
@[simp] theorem State.clearEngineOf_notes (s : State) (d : Drive) : (s.clearEngineOf d).notes = s.notes := by
  unfold State.clearEngineOf; split <;> simp
@[simp] theorem State.clearEngineOf_watch (s : State) (d : Drive) : (s.clearEngineOf d).watch = s.watch := by
  unfold State.clearEngineOf; split <;> simp
@[simp] theorem State.clearEngineOf_relocQ (s : State) (d : Drive) : (s.clearEngineOf d).relocQ = s.relocQ := by
  unfold State.clearEngineOf; split <;> simp
@[simp] theorem State.clearEngineOf_reloc (s : State) (d : Drive) : (s.clearEngineOf d).reloc = s.reloc := by
  unfold State.clearEngineOf; split <;> simp
@[simp] theorem State.clearEngineOf_buffer (s : State) (d : Drive) : (s.clearEngineOf d).buffer = s.buffer := by
  unfold State.clearEngineOf; split <;> simp
@[simp] theorem State.clearEngineOf_map (s : State) (d : Drive) : (s.clearEngineOf d).map = s.map := by
  unfold State.clearEngineOf; split <;> simp
@[simp] theorem State.clearEngineOf_lastRead (s : State) (d : Drive) : (s.clearEngineOf d).lastRead = s.lastRead := by
  unfold State.clearEngineOf; split <;> simp
@[simp] theorem State.clearEngineOf_choices (s : State) (d : Drive) : (s.clearEngineOf d).choices = s.choices := by
  unfold State.clearEngineOf; split <;> simp

/-! ### `State.endTrackWalk` -/

@[simp] theorem State.endTrackWalk_mon (s : State) : (s.endTrackWalk).mon = s.mon := by
  unfold State.endTrackWalk; split <;> simp
@[simp] theorem State.endTrackWalk_queues (s : State) : (s.endTrackWalk).queues = s.queues := by
  unfold State.endTrackWalk; split <;> simp
@[simp] theorem State.endTrackWalk_scans (s : State) : (s.endTrackWalk).scans = s.scans := by
  unfold State.endTrackWalk; split <;> simp
@[simp] theorem State.endTrackWalk_reserved (s : State) : (s.endTrackWalk).reserved = s.reserved := by
  unfold State.endTrackWalk; split <;> simp
@[simp] theorem State.endTrackWalk_ports (s : State) : (s.endTrackWalk).ports = s.ports := by
  unfold State.endTrackWalk; split <;> simp
@[simp] theorem State.endTrackWalk_gate (s : State) : (s.endTrackWalk).gate = s.gate := by
  unfold State.endTrackWalk; split <;> simp
@[simp] theorem State.endTrackWalk_lastWrite (s : State) : (s.endTrackWalk).lastWrite = s.lastWrite := by
  unfold State.endTrackWalk; split <;> simp
@[simp] theorem State.endTrackWalk_engine (s : State) : (s.endTrackWalk).engine = s.engine := by
  unfold State.endTrackWalk; split <;> simp
@[simp] theorem State.endTrackWalk_walk (s : State) : (s.endTrackWalk).walk = s.walk := by
  unfold State.endTrackWalk; split <;> simp
@[simp] theorem State.endTrackWalk_notes (s : State) : (s.endTrackWalk).notes = s.notes := by
  unfold State.endTrackWalk; split <;> simp
@[simp] theorem State.endTrackWalk_watch (s : State) : (s.endTrackWalk).watch = s.watch := by
  unfold State.endTrackWalk; split <;> simp
@[simp] theorem State.endTrackWalk_relocQ (s : State) : (s.endTrackWalk).relocQ = s.relocQ := by
  unfold State.endTrackWalk; split <;> simp
@[simp] theorem State.endTrackWalk_reloc (s : State) : (s.endTrackWalk).reloc = s.reloc := by
  unfold State.endTrackWalk; split <;> simp
@[simp] theorem State.endTrackWalk_buffer (s : State) : (s.endTrackWalk).buffer = s.buffer := by
  unfold State.endTrackWalk; split <;> simp
@[simp] theorem State.endTrackWalk_map (s : State) : (s.endTrackWalk).map = s.map := by
  unfold State.endTrackWalk; split <;> simp
@[simp] theorem State.endTrackWalk_lastRead (s : State) : (s.endTrackWalk).lastRead = s.lastRead := by
  unfold State.endTrackWalk; split <;> simp
@[simp] theorem State.endTrackWalk_choices (s : State) : (s.endTrackWalk).choices = s.choices := by
  unfold State.endTrackWalk; split <;> simp

/-! ### `State.abandonReloc` -/

@[simp] theorem State.abandonReloc_mon (s : State) : (s.abandonReloc).mon = s.mon := by
  unfold State.abandonReloc; split <;> simp
@[simp] theorem State.abandonReloc_queues (s : State) : (s.abandonReloc).queues = s.queues := by
  unfold State.abandonReloc; split <;> simp
@[simp] theorem State.abandonReloc_scans (s : State) : (s.abandonReloc).scans = s.scans := by
  unfold State.abandonReloc; split <;> simp
@[simp] theorem State.abandonReloc_reserved (s : State) : (s.abandonReloc).reserved = s.reserved := by
  unfold State.abandonReloc; split <;> simp
@[simp] theorem State.abandonReloc_ports (s : State) : (s.abandonReloc).ports = s.ports := by
  unfold State.abandonReloc; split <;> simp
@[simp] theorem State.abandonReloc_gate (s : State) : (s.abandonReloc).gate = s.gate := by
  unfold State.abandonReloc; split <;> simp
@[simp] theorem State.abandonReloc_lastWrite (s : State) : (s.abandonReloc).lastWrite = s.lastWrite := by
  unfold State.abandonReloc; split <;> simp
@[simp] theorem State.abandonReloc_engine (s : State) : (s.abandonReloc).engine = s.engine := by
  unfold State.abandonReloc; split <;> simp
@[simp] theorem State.abandonReloc_walk (s : State) : (s.abandonReloc).walk = s.walk := by
  unfold State.abandonReloc; split <;> simp
@[simp] theorem State.abandonReloc_notes (s : State) : (s.abandonReloc).notes = s.notes := by
  unfold State.abandonReloc; split <;> simp
@[simp] theorem State.abandonReloc_relocQ (s : State) : (s.abandonReloc).relocQ = s.relocQ := by
  unfold State.abandonReloc; split <;> simp
@[simp] theorem State.abandonReloc_lastRead (s : State) : (s.abandonReloc).lastRead = s.lastRead := by
  unfold State.abandonReloc; split <;> simp
@[simp] theorem State.abandonReloc_choices (s : State) : (s.abandonReloc).choices = s.choices := by
  unfold State.abandonReloc; split <;> simp

/-! ### `State.abandonRelocOf` -/

@[simp] theorem State.abandonRelocOf_mon (s : State) (d : Drive) : (s.abandonRelocOf d).mon = s.mon := by
  unfold State.abandonRelocOf
  repeat' split
  all_goals simp
@[simp] theorem State.abandonRelocOf_queues (s : State) (d : Drive) : (s.abandonRelocOf d).queues = s.queues := by
  unfold State.abandonRelocOf
  repeat' split
  all_goals simp
@[simp] theorem State.abandonRelocOf_scans (s : State) (d : Drive) : (s.abandonRelocOf d).scans = s.scans := by
  unfold State.abandonRelocOf
  repeat' split
  all_goals simp
@[simp] theorem State.abandonRelocOf_reserved (s : State) (d : Drive) : (s.abandonRelocOf d).reserved = s.reserved := by
  unfold State.abandonRelocOf
  repeat' split
  all_goals simp
@[simp] theorem State.abandonRelocOf_ports (s : State) (d : Drive) : (s.abandonRelocOf d).ports = s.ports := by
  unfold State.abandonRelocOf
  repeat' split
  all_goals simp
@[simp] theorem State.abandonRelocOf_gate (s : State) (d : Drive) : (s.abandonRelocOf d).gate = s.gate := by
  unfold State.abandonRelocOf
  repeat' split
  all_goals simp
@[simp] theorem State.abandonRelocOf_lastWrite (s : State) (d : Drive) : (s.abandonRelocOf d).lastWrite = s.lastWrite := by
  unfold State.abandonRelocOf
  repeat' split
  all_goals simp
@[simp] theorem State.abandonRelocOf_engine (s : State) (d : Drive) : (s.abandonRelocOf d).engine = s.engine := by
  unfold State.abandonRelocOf
  repeat' split
  all_goals simp
@[simp] theorem State.abandonRelocOf_walk (s : State) (d : Drive) : (s.abandonRelocOf d).walk = s.walk := by
  unfold State.abandonRelocOf
  repeat' split
  all_goals simp
@[simp] theorem State.abandonRelocOf_notes (s : State) (d : Drive) : (s.abandonRelocOf d).notes = s.notes := by
  unfold State.abandonRelocOf
  repeat' split
  all_goals simp
@[simp] theorem State.abandonRelocOf_relocQ (s : State) (d : Drive) : (s.abandonRelocOf d).relocQ = s.relocQ := by
  unfold State.abandonRelocOf
  repeat' split
  all_goals simp
@[simp] theorem State.abandonRelocOf_lastRead (s : State) (d : Drive) : (s.abandonRelocOf d).lastRead = s.lastRead := by
  unfold State.abandonRelocOf
  repeat' split
  all_goals simp
@[simp] theorem State.abandonRelocOf_choices (s : State) (d : Drive) : (s.abandonRelocOf d).choices = s.choices := by
  unfold State.abandonRelocOf
  repeat' split
  all_goals simp

/-! ### `State.loseDrive` -/

@[simp] theorem State.loseDrive_mon (s : State) (d : Drive) (code : Code) : (s.loseDrive d code).mon = s.mon := by
  unfold State.loseDrive
  simp [State.foldl_keeps (·.mon) (s.queue d) (fun s r => s.endWith d (if r.inService then code else .driveLost) r) (fun _ _ => by simp)]
@[simp] theorem State.loseDrive_reserved (s : State) (d : Drive) (code : Code) : (s.loseDrive d code).reserved = s.reserved := by
  unfold State.loseDrive
  simp [State.foldl_keeps (·.reserved) (s.queue d) (fun s r => s.endWith d (if r.inService then code else .driveLost) r) (fun _ _ => by simp)]
@[simp] theorem State.loseDrive_lastWrite (s : State) (d : Drive) (code : Code) : (s.loseDrive d code).lastWrite = s.lastWrite := by
  unfold State.loseDrive
  simp [State.foldl_keeps (·.lastWrite) (s.queue d) (fun s r => s.endWith d (if r.inService then code else .driveLost) r) (fun _ _ => by simp)]
@[simp] theorem State.loseDrive_notes (s : State) (d : Drive) (code : Code) : (s.loseDrive d code).notes = s.notes := by
  unfold State.loseDrive
  simp [State.foldl_keeps (·.notes) (s.queue d) (fun s r => s.endWith d (if r.inService then code else .driveLost) r) (fun _ _ => by simp)]
@[simp] theorem State.loseDrive_relocQ (s : State) (d : Drive) (code : Code) : (s.loseDrive d code).relocQ = s.relocQ := by
  unfold State.loseDrive
  simp [State.foldl_keeps (·.relocQ) (s.queue d) (fun s r => s.endWith d (if r.inService then code else .driveLost) r) (fun _ _ => by simp)]
@[simp] theorem State.loseDrive_lastRead (s : State) (d : Drive) (code : Code) : (s.loseDrive d code).lastRead = s.lastRead := by
  unfold State.loseDrive
  simp [State.foldl_keeps (·.lastRead) (s.queue d) (fun s r => s.endWith d (if r.inService then code else .driveLost) r) (fun _ _ => by simp)]
@[simp] theorem State.loseDrive_choices (s : State) (d : Drive) (code : Code) : (s.loseDrive d code).choices = s.choices := by
  unfold State.loseDrive
  simp [State.foldl_keeps (·.choices) (s.queue d) (fun s r => s.endWith d (if r.inService then code else .driveLost) r) (fun _ _ => by simp)]

/-! ### `State.enterFaulted` -/

@[simp] theorem State.enterFaulted_reserved (s : State) (d : Drive) (cause : FaultCause) : (s.enterFaulted d cause).reserved = s.reserved := by
  simp [State.enterFaulted]
@[simp] theorem State.enterFaulted_lastWrite (s : State) (d : Drive) (cause : FaultCause) : (s.enterFaulted d cause).lastWrite = s.lastWrite := by
  simp [State.enterFaulted]
@[simp] theorem State.enterFaulted_notes (s : State) (d : Drive) (cause : FaultCause) : (s.enterFaulted d cause).notes = s.notes := by
  simp [State.enterFaulted]
@[simp] theorem State.enterFaulted_relocQ (s : State) (d : Drive) (cause : FaultCause) : (s.enterFaulted d cause).relocQ = s.relocQ := by
  simp [State.enterFaulted]
@[simp] theorem State.enterFaulted_lastRead (s : State) (d : Drive) (cause : FaultCause) : (s.enterFaulted d cause).lastRead = s.lastRead := by
  simp [State.enterFaulted]
@[simp] theorem State.enterFaulted_choices (s : State) (d : Drive) (cause : FaultCause) : (s.enterFaulted d cause).choices = s.choices := by
  simp [State.enterFaulted]

/-! ### `State.enterOffline` -/

@[simp] theorem State.enterOffline_reserved (s : State) (d : Drive) : (s.enterOffline d).reserved = s.reserved := by
  simp [State.enterOffline]
@[simp] theorem State.enterOffline_lastWrite (s : State) (d : Drive) : (s.enterOffline d).lastWrite = s.lastWrite := by
  simp [State.enterOffline]
@[simp] theorem State.enterOffline_notes (s : State) (d : Drive) : (s.enterOffline d).notes = s.notes := by
  simp [State.enterOffline]
@[simp] theorem State.enterOffline_relocQ (s : State) (d : Drive) : (s.enterOffline d).relocQ = s.relocQ := by
  simp [State.enterOffline]
@[simp] theorem State.enterOffline_lastRead (s : State) (d : Drive) : (s.enterOffline d).lastRead = s.lastRead := by
  simp [State.enterOffline]
@[simp] theorem State.enterOffline_choices (s : State) (d : Drive) : (s.enterOffline d).choices = s.choices := by
  simp [State.enterOffline]

/-! ### `State.enterSpinCheck` -/

@[simp] theorem State.enterSpinCheck_side (s : State) (d : Drive) : (s.enterSpinCheck d).side = s.side := rfl
@[simp] theorem State.enterSpinCheck_queues (s : State) (d : Drive) : (s.enterSpinCheck d).queues = s.queues := rfl
@[simp] theorem State.enterSpinCheck_scans (s : State) (d : Drive) : (s.enterSpinCheck d).scans = s.scans := rfl
@[simp] theorem State.enterSpinCheck_reserved (s : State) (d : Drive) : (s.enterSpinCheck d).reserved = s.reserved := rfl
@[simp] theorem State.enterSpinCheck_ports (s : State) (d : Drive) : (s.enterSpinCheck d).ports = s.ports := rfl
@[simp] theorem State.enterSpinCheck_gate (s : State) (d : Drive) : (s.enterSpinCheck d).gate = s.gate := rfl
@[simp] theorem State.enterSpinCheck_lastWrite (s : State) (d : Drive) : (s.enterSpinCheck d).lastWrite = s.lastWrite := rfl
@[simp] theorem State.enterSpinCheck_engine (s : State) (d : Drive) : (s.enterSpinCheck d).engine = s.engine := rfl
@[simp] theorem State.enterSpinCheck_walk (s : State) (d : Drive) : (s.enterSpinCheck d).walk = s.walk := rfl
@[simp] theorem State.enterSpinCheck_trackWalk (s : State) (d : Drive) : (s.enterSpinCheck d).trackWalk = s.trackWalk := rfl
@[simp] theorem State.enterSpinCheck_notes (s : State) (d : Drive) : (s.enterSpinCheck d).notes = s.notes := rfl
@[simp] theorem State.enterSpinCheck_watch (s : State) (d : Drive) : (s.enterSpinCheck d).watch = s.watch := rfl
@[simp] theorem State.enterSpinCheck_relocQ (s : State) (d : Drive) : (s.enterSpinCheck d).relocQ = s.relocQ := rfl
@[simp] theorem State.enterSpinCheck_reloc (s : State) (d : Drive) : (s.enterSpinCheck d).reloc = s.reloc := rfl
@[simp] theorem State.enterSpinCheck_buffer (s : State) (d : Drive) : (s.enterSpinCheck d).buffer = s.buffer := rfl
@[simp] theorem State.enterSpinCheck_map (s : State) (d : Drive) : (s.enterSpinCheck d).map = s.map := rfl
@[simp] theorem State.enterSpinCheck_lastRead (s : State) (d : Drive) : (s.enterSpinCheck d).lastRead = s.lastRead := rfl
@[simp] theorem State.enterSpinCheck_choices (s : State) (d : Drive) : (s.enterSpinCheck d).choices = s.choices := rfl

/-! ### `State.trySpinCheck` -/

@[simp] theorem State.trySpinCheck_side (s : State) (d : Drive) : (s.trySpinCheck d).side = s.side := by
  unfold State.trySpinCheck; split <;> simp
@[simp] theorem State.trySpinCheck_queues (s : State) (d : Drive) : (s.trySpinCheck d).queues = s.queues := by
  unfold State.trySpinCheck; split <;> simp
@[simp] theorem State.trySpinCheck_scans (s : State) (d : Drive) : (s.trySpinCheck d).scans = s.scans := by
  unfold State.trySpinCheck; split <;> simp
@[simp] theorem State.trySpinCheck_reserved (s : State) (d : Drive) : (s.trySpinCheck d).reserved = s.reserved := by
  unfold State.trySpinCheck; split <;> simp
@[simp] theorem State.trySpinCheck_ports (s : State) (d : Drive) : (s.trySpinCheck d).ports = s.ports := by
  unfold State.trySpinCheck; split <;> simp
@[simp] theorem State.trySpinCheck_gate (s : State) (d : Drive) : (s.trySpinCheck d).gate = s.gate := by
  unfold State.trySpinCheck; split <;> simp
@[simp] theorem State.trySpinCheck_lastWrite (s : State) (d : Drive) : (s.trySpinCheck d).lastWrite = s.lastWrite := by
  unfold State.trySpinCheck; split <;> simp
@[simp] theorem State.trySpinCheck_engine (s : State) (d : Drive) : (s.trySpinCheck d).engine = s.engine := by
  unfold State.trySpinCheck; split <;> simp
@[simp] theorem State.trySpinCheck_walk (s : State) (d : Drive) : (s.trySpinCheck d).walk = s.walk := by
  unfold State.trySpinCheck; split <;> simp
@[simp] theorem State.trySpinCheck_trackWalk (s : State) (d : Drive) : (s.trySpinCheck d).trackWalk = s.trackWalk := by
  unfold State.trySpinCheck; split <;> simp
@[simp] theorem State.trySpinCheck_notes (s : State) (d : Drive) : (s.trySpinCheck d).notes = s.notes := by
  unfold State.trySpinCheck; split <;> simp
@[simp] theorem State.trySpinCheck_watch (s : State) (d : Drive) : (s.trySpinCheck d).watch = s.watch := by
  unfold State.trySpinCheck; split <;> simp
@[simp] theorem State.trySpinCheck_relocQ (s : State) (d : Drive) : (s.trySpinCheck d).relocQ = s.relocQ := by
  unfold State.trySpinCheck; split <;> simp
@[simp] theorem State.trySpinCheck_reloc (s : State) (d : Drive) : (s.trySpinCheck d).reloc = s.reloc := by
  unfold State.trySpinCheck; split <;> simp
@[simp] theorem State.trySpinCheck_buffer (s : State) (d : Drive) : (s.trySpinCheck d).buffer = s.buffer := by
  unfold State.trySpinCheck; split <;> simp
@[simp] theorem State.trySpinCheck_map (s : State) (d : Drive) : (s.trySpinCheck d).map = s.map := by
  unfold State.trySpinCheck; split <;> simp
@[simp] theorem State.trySpinCheck_lastRead (s : State) (d : Drive) : (s.trySpinCheck d).lastRead = s.lastRead := by
  unfold State.trySpinCheck; split <;> simp
@[simp] theorem State.trySpinCheck_choices (s : State) (d : Drive) : (s.trySpinCheck d).choices = s.choices := by
  unfold State.trySpinCheck; split <;> simp

/-! ### `State.seekForReloc` -/

@[simp] theorem State.seekForReloc_queues (s : State) (d : Drive) (t : Track) : (s.seekForReloc d t).queues = s.queues := by
  unfold State.seekForReloc; dsimp only; split <;> simp
@[simp] theorem State.seekForReloc_reserved (s : State) (d : Drive) (t : Track) : (s.seekForReloc d t).reserved = s.reserved := by
  unfold State.seekForReloc; dsimp only; split <;> simp
@[simp] theorem State.seekForReloc_ports (s : State) (d : Drive) (t : Track) : (s.seekForReloc d t).ports = s.ports := by
  unfold State.seekForReloc; dsimp only; split <;> simp
@[simp] theorem State.seekForReloc_gate (s : State) (d : Drive) (t : Track) : (s.seekForReloc d t).gate = s.gate := by
  unfold State.seekForReloc; dsimp only; split <;> simp
@[simp] theorem State.seekForReloc_lastWrite (s : State) (d : Drive) (t : Track) : (s.seekForReloc d t).lastWrite = s.lastWrite := by
  unfold State.seekForReloc; dsimp only; split <;> simp
@[simp] theorem State.seekForReloc_walk (s : State) (d : Drive) (t : Track) : (s.seekForReloc d t).walk = s.walk := by
  unfold State.seekForReloc; dsimp only; split <;> simp
@[simp] theorem State.seekForReloc_trackWalk (s : State) (d : Drive) (t : Track) : (s.seekForReloc d t).trackWalk = s.trackWalk := by
  unfold State.seekForReloc; dsimp only; split <;> simp
@[simp] theorem State.seekForReloc_notes (s : State) (d : Drive) (t : Track) : (s.seekForReloc d t).notes = s.notes := by
  unfold State.seekForReloc; dsimp only; split <;> simp
@[simp] theorem State.seekForReloc_watch (s : State) (d : Drive) (t : Track) : (s.seekForReloc d t).watch = s.watch := by
  unfold State.seekForReloc; dsimp only; split <;> simp
@[simp] theorem State.seekForReloc_relocQ (s : State) (d : Drive) (t : Track) : (s.seekForReloc d t).relocQ = s.relocQ := by
  unfold State.seekForReloc; dsimp only; split <;> simp
@[simp] theorem State.seekForReloc_reloc (s : State) (d : Drive) (t : Track) : (s.seekForReloc d t).reloc = s.reloc := by
  unfold State.seekForReloc; dsimp only; split <;> simp
@[simp] theorem State.seekForReloc_buffer (s : State) (d : Drive) (t : Track) : (s.seekForReloc d t).buffer = s.buffer := by
  unfold State.seekForReloc; dsimp only; split <;> simp
@[simp] theorem State.seekForReloc_map (s : State) (d : Drive) (t : Track) : (s.seekForReloc d t).map = s.map := by
  unfold State.seekForReloc; dsimp only; split <;> simp
@[simp] theorem State.seekForReloc_lastRead (s : State) (d : Drive) (t : Track) : (s.seekForReloc d t).lastRead = s.lastRead := by
  unfold State.seekForReloc; dsimp only; split <;> simp
@[simp] theorem State.seekForReloc_choices (s : State) (d : Drive) (t : Track) : (s.seekForReloc d t).choices = s.choices := by
  unfold State.seekForReloc; dsimp only; split <;> simp

/-! ### `State.beginCommit` -/

@[simp] theorem State.beginCommit_queues (s : State) : (s.beginCommit).queues = s.queues := by
  unfold State.beginCommit
  repeat' split
  all_goals simp
@[simp] theorem State.beginCommit_reserved (s : State) : (s.beginCommit).reserved = s.reserved := by
  unfold State.beginCommit
  repeat' split
  all_goals simp
@[simp] theorem State.beginCommit_ports (s : State) : (s.beginCommit).ports = s.ports := by
  unfold State.beginCommit
  repeat' split
  all_goals simp
@[simp] theorem State.beginCommit_gate (s : State) : (s.beginCommit).gate = s.gate := by
  unfold State.beginCommit
  repeat' split
  all_goals simp
@[simp] theorem State.beginCommit_lastWrite (s : State) : (s.beginCommit).lastWrite = s.lastWrite := by
  unfold State.beginCommit
  repeat' split
  all_goals simp
@[simp] theorem State.beginCommit_walk (s : State) : (s.beginCommit).walk = s.walk := by
  unfold State.beginCommit
  repeat' split
  all_goals simp
@[simp] theorem State.beginCommit_trackWalk (s : State) : (s.beginCommit).trackWalk = s.trackWalk := by
  unfold State.beginCommit
  repeat' split
  all_goals simp
@[simp] theorem State.beginCommit_notes (s : State) : (s.beginCommit).notes = s.notes := by
  unfold State.beginCommit
  repeat' split
  all_goals simp
@[simp] theorem State.beginCommit_watch (s : State) : (s.beginCommit).watch = s.watch := by
  unfold State.beginCommit
  repeat' split
  all_goals simp
@[simp] theorem State.beginCommit_relocQ (s : State) : (s.beginCommit).relocQ = s.relocQ := by
  unfold State.beginCommit
  repeat' split
  all_goals simp
@[simp] theorem State.beginCommit_buffer (s : State) : (s.beginCommit).buffer = s.buffer := by
  unfold State.beginCommit
  repeat' split
  all_goals simp
@[simp] theorem State.beginCommit_map (s : State) : (s.beginCommit).map = s.map := by
  unfold State.beginCommit
  repeat' split
  all_goals simp
@[simp] theorem State.beginCommit_lastRead (s : State) : (s.beginCommit).lastRead = s.lastRead := by
  unfold State.beginCommit
  repeat' split
  all_goals simp
@[simp] theorem State.beginCommit_choices (s : State) : (s.beginCommit).choices = s.choices := by
  unfold State.beginCommit
  repeat' split
  all_goals simp

/-! ### `State.resumeRead` -/

@[simp] theorem State.resumeRead_queues (s : State) : (s.resumeRead).queues = s.queues := by
  unfold State.resumeRead
  repeat' split
  all_goals simp
@[simp] theorem State.resumeRead_reserved (s : State) : (s.resumeRead).reserved = s.reserved := by
  unfold State.resumeRead
  repeat' split
  all_goals simp
@[simp] theorem State.resumeRead_ports (s : State) : (s.resumeRead).ports = s.ports := by
  unfold State.resumeRead
  repeat' split
  all_goals simp
@[simp] theorem State.resumeRead_gate (s : State) : (s.resumeRead).gate = s.gate := by
  unfold State.resumeRead
  repeat' split
  all_goals simp
@[simp] theorem State.resumeRead_lastWrite (s : State) : (s.resumeRead).lastWrite = s.lastWrite := by
  unfold State.resumeRead
  repeat' split
  all_goals simp
@[simp] theorem State.resumeRead_walk (s : State) : (s.resumeRead).walk = s.walk := by
  unfold State.resumeRead
  repeat' split
  all_goals simp
@[simp] theorem State.resumeRead_trackWalk (s : State) : (s.resumeRead).trackWalk = s.trackWalk := by
  unfold State.resumeRead
  repeat' split
  all_goals simp
@[simp] theorem State.resumeRead_notes (s : State) : (s.resumeRead).notes = s.notes := by
  unfold State.resumeRead
  repeat' split
  all_goals simp
@[simp] theorem State.resumeRead_watch (s : State) : (s.resumeRead).watch = s.watch := by
  unfold State.resumeRead
  repeat' split
  all_goals simp
@[simp] theorem State.resumeRead_relocQ (s : State) : (s.resumeRead).relocQ = s.relocQ := by
  unfold State.resumeRead
  repeat' split
  all_goals simp
@[simp] theorem State.resumeRead_buffer (s : State) : (s.resumeRead).buffer = s.buffer := by
  unfold State.resumeRead
  repeat' split
  all_goals simp
@[simp] theorem State.resumeRead_map (s : State) : (s.resumeRead).map = s.map := by
  unfold State.resumeRead
  repeat' split
  all_goals simp
@[simp] theorem State.resumeRead_lastRead (s : State) : (s.resumeRead).lastRead = s.lastRead := by
  unfold State.resumeRead
  repeat' split
  all_goals simp
@[simp] theorem State.resumeRead_choices (s : State) : (s.resumeRead).choices = s.choices := by
  unfold State.resumeRead
  repeat' split
  all_goals simp

/-! ### `State.beginEnding` -/

@[simp] theorem State.beginEnding_mon (s : State) (p : Path) : (s.beginEnding p).mon = s.mon := by
  unfold State.beginEnding; split <;> simp
@[simp] theorem State.beginEnding_side (s : State) (p : Path) : (s.beginEnding p).side = s.side := by
  unfold State.beginEnding; split <;> simp
@[simp] theorem State.beginEnding_queues (s : State) (p : Path) : (s.beginEnding p).queues = s.queues := by
  unfold State.beginEnding; split <;> simp
@[simp] theorem State.beginEnding_scans (s : State) (p : Path) : (s.beginEnding p).scans = s.scans := by
  unfold State.beginEnding; split <;> simp
@[simp] theorem State.beginEnding_reserved (s : State) (p : Path) : (s.beginEnding p).reserved = s.reserved := by
  unfold State.beginEnding; split <;> simp
@[simp] theorem State.beginEnding_gate (s : State) (p : Path) : (s.beginEnding p).gate = s.gate := by
  unfold State.beginEnding; split <;> simp
@[simp] theorem State.beginEnding_lastWrite (s : State) (p : Path) : (s.beginEnding p).lastWrite = s.lastWrite := by
  unfold State.beginEnding; split <;> simp
@[simp] theorem State.beginEnding_engine (s : State) (p : Path) : (s.beginEnding p).engine = s.engine := by
  unfold State.beginEnding; split <;> simp
@[simp] theorem State.beginEnding_walk (s : State) (p : Path) : (s.beginEnding p).walk = s.walk := by
  unfold State.beginEnding; split <;> simp
@[simp] theorem State.beginEnding_trackWalk (s : State) (p : Path) : (s.beginEnding p).trackWalk = s.trackWalk := by
  unfold State.beginEnding; split <;> simp
@[simp] theorem State.beginEnding_notes (s : State) (p : Path) : (s.beginEnding p).notes = s.notes := by
  unfold State.beginEnding; split <;> simp
@[simp] theorem State.beginEnding_watch (s : State) (p : Path) : (s.beginEnding p).watch = s.watch := by
  unfold State.beginEnding; split <;> simp
@[simp] theorem State.beginEnding_relocQ (s : State) (p : Path) : (s.beginEnding p).relocQ = s.relocQ := by
  unfold State.beginEnding; split <;> simp
@[simp] theorem State.beginEnding_reloc (s : State) (p : Path) : (s.beginEnding p).reloc = s.reloc := by
  unfold State.beginEnding; split <;> simp
@[simp] theorem State.beginEnding_buffer (s : State) (p : Path) : (s.beginEnding p).buffer = s.buffer := by
  unfold State.beginEnding; split <;> simp
@[simp] theorem State.beginEnding_map (s : State) (p : Path) : (s.beginEnding p).map = s.map := by
  unfold State.beginEnding; split <;> simp
@[simp] theorem State.beginEnding_lastRead (s : State) (p : Path) : (s.beginEnding p).lastRead = s.lastRead := by
  unfold State.beginEnding; split <;> simp
@[simp] theorem State.beginEnding_choices (s : State) (p : Path) : (s.beginEnding p).choices = s.choices := by
  unfold State.beginEnding; split <;> simp

/-! ### `State.beginNotice` -/

@[simp] theorem State.beginNotice_mon (s : State) (p : Path) : (s.beginNotice p).mon = s.mon := by
  unfold State.beginNotice; split <;> simp
@[simp] theorem State.beginNotice_side (s : State) (p : Path) : (s.beginNotice p).side = s.side := by
  unfold State.beginNotice; split <;> simp
@[simp] theorem State.beginNotice_queues (s : State) (p : Path) : (s.beginNotice p).queues = s.queues := by
  unfold State.beginNotice; split <;> simp
@[simp] theorem State.beginNotice_scans (s : State) (p : Path) : (s.beginNotice p).scans = s.scans := by
  unfold State.beginNotice; split <;> simp
@[simp] theorem State.beginNotice_reserved (s : State) (p : Path) : (s.beginNotice p).reserved = s.reserved := by
  unfold State.beginNotice; split <;> simp
@[simp] theorem State.beginNotice_gate (s : State) (p : Path) : (s.beginNotice p).gate = s.gate := by
  unfold State.beginNotice; split <;> simp
@[simp] theorem State.beginNotice_lastWrite (s : State) (p : Path) : (s.beginNotice p).lastWrite = s.lastWrite := by
  unfold State.beginNotice; split <;> simp
@[simp] theorem State.beginNotice_engine (s : State) (p : Path) : (s.beginNotice p).engine = s.engine := by
  unfold State.beginNotice; split <;> simp
@[simp] theorem State.beginNotice_walk (s : State) (p : Path) : (s.beginNotice p).walk = s.walk := by
  unfold State.beginNotice; split <;> simp
@[simp] theorem State.beginNotice_trackWalk (s : State) (p : Path) : (s.beginNotice p).trackWalk = s.trackWalk := by
  unfold State.beginNotice; split <;> simp
@[simp] theorem State.beginNotice_notes (s : State) (p : Path) : (s.beginNotice p).notes = s.notes := by
  unfold State.beginNotice; split <;> simp
@[simp] theorem State.beginNotice_watch (s : State) (p : Path) : (s.beginNotice p).watch = s.watch := by
  unfold State.beginNotice; split <;> simp
@[simp] theorem State.beginNotice_relocQ (s : State) (p : Path) : (s.beginNotice p).relocQ = s.relocQ := by
  unfold State.beginNotice; split <;> simp
@[simp] theorem State.beginNotice_reloc (s : State) (p : Path) : (s.beginNotice p).reloc = s.reloc := by
  unfold State.beginNotice; split <;> simp
@[simp] theorem State.beginNotice_buffer (s : State) (p : Path) : (s.beginNotice p).buffer = s.buffer := by
  unfold State.beginNotice; split <;> simp
@[simp] theorem State.beginNotice_map (s : State) (p : Path) : (s.beginNotice p).map = s.map := by
  unfold State.beginNotice; split <;> simp
@[simp] theorem State.beginNotice_lastRead (s : State) (p : Path) : (s.beginNotice p).lastRead = s.lastRead := by
  unfold State.beginNotice; split <;> simp
@[simp] theorem State.beginNotice_choices (s : State) (p : Path) : (s.beginNotice p).choices = s.choices := by
  unfold State.beginNotice; split <;> simp

/-! ### `State.portFrame` -/

@[simp] theorem State.portFrame_mon (s : State) (p : Path) : (s.portFrame p).mon = s.mon := by
  unfold State.portFrame
  repeat' split
  all_goals simp
@[simp] theorem State.portFrame_side (s : State) (p : Path) : (s.portFrame p).side = s.side := by
  unfold State.portFrame
  repeat' split
  all_goals simp
@[simp] theorem State.portFrame_queues (s : State) (p : Path) : (s.portFrame p).queues = s.queues := by
  unfold State.portFrame
  repeat' split
  all_goals simp
@[simp] theorem State.portFrame_scans (s : State) (p : Path) : (s.portFrame p).scans = s.scans := by
  unfold State.portFrame
  repeat' split
  all_goals simp
@[simp] theorem State.portFrame_reserved (s : State) (p : Path) : (s.portFrame p).reserved = s.reserved := by
  unfold State.portFrame
  repeat' split
  all_goals simp
@[simp] theorem State.portFrame_gate (s : State) (p : Path) : (s.portFrame p).gate = s.gate := by
  unfold State.portFrame
  repeat' split
  all_goals simp
@[simp] theorem State.portFrame_lastWrite (s : State) (p : Path) : (s.portFrame p).lastWrite = s.lastWrite := by
  unfold State.portFrame
  repeat' split
  all_goals simp
@[simp] theorem State.portFrame_engine (s : State) (p : Path) : (s.portFrame p).engine = s.engine := by
  unfold State.portFrame
  repeat' split
  all_goals simp
@[simp] theorem State.portFrame_walk (s : State) (p : Path) : (s.portFrame p).walk = s.walk := by
  unfold State.portFrame
  repeat' split
  all_goals simp
@[simp] theorem State.portFrame_trackWalk (s : State) (p : Path) : (s.portFrame p).trackWalk = s.trackWalk := by
  unfold State.portFrame
  repeat' split
  all_goals simp
@[simp] theorem State.portFrame_notes (s : State) (p : Path) : (s.portFrame p).notes = s.notes := by
  unfold State.portFrame
  repeat' split
  all_goals simp
@[simp] theorem State.portFrame_watch (s : State) (p : Path) : (s.portFrame p).watch = s.watch := by
  unfold State.portFrame
  repeat' split
  all_goals simp
@[simp] theorem State.portFrame_relocQ (s : State) (p : Path) : (s.portFrame p).relocQ = s.relocQ := by
  unfold State.portFrame
  repeat' split
  all_goals simp
@[simp] theorem State.portFrame_reloc (s : State) (p : Path) : (s.portFrame p).reloc = s.reloc := by
  unfold State.portFrame
  repeat' split
  all_goals simp
@[simp] theorem State.portFrame_buffer (s : State) (p : Path) : (s.portFrame p).buffer = s.buffer := by
  unfold State.portFrame
  repeat' split
  all_goals simp
@[simp] theorem State.portFrame_map (s : State) (p : Path) : (s.portFrame p).map = s.map := by
  unfold State.portFrame
  repeat' split
  all_goals simp
@[simp] theorem State.portFrame_lastRead (s : State) (p : Path) : (s.portFrame p).lastRead = s.lastRead := by
  unfold State.portFrame
  repeat' split
  all_goals simp
@[simp] theorem State.portFrame_choices (s : State) (p : Path) : (s.portFrame p).choices = s.choices := by
  unfold State.portFrame
  repeat' split
  all_goals simp

/-! ### `State.grantHost` -/

@[simp] theorem State.grantHost_mon (s : State) (d : Drive) (p : Path) (t : Tag) : (s.grantHost d p t).mon = s.mon := by
  unfold State.grantHost; split <;> simp
@[simp] theorem State.grantHost_side (s : State) (d : Drive) (p : Path) (t : Tag) : (s.grantHost d p t).side = s.side := by
  unfold State.grantHost; split <;> simp
@[simp] theorem State.grantHost_queues (s : State) (d : Drive) (p : Path) (t : Tag) : (s.grantHost d p t).queues = s.queues := by
  unfold State.grantHost; split <;> simp
@[simp] theorem State.grantHost_scans (s : State) (d : Drive) (p : Path) (t : Tag) : (s.grantHost d p t).scans = s.scans := by
  unfold State.grantHost; split <;> simp
@[simp] theorem State.grantHost_reserved (s : State) (d : Drive) (p : Path) (t : Tag) : (s.grantHost d p t).reserved = s.reserved := by
  unfold State.grantHost; split <;> simp
@[simp] theorem State.grantHost_gate (s : State) (d : Drive) (p : Path) (t : Tag) : (s.grantHost d p t).gate = s.gate := by
  unfold State.grantHost; split <;> simp
@[simp] theorem State.grantHost_lastWrite (s : State) (d : Drive) (p : Path) (t : Tag) : (s.grantHost d p t).lastWrite = s.lastWrite := by
  unfold State.grantHost; split <;> simp
@[simp] theorem State.grantHost_walk (s : State) (d : Drive) (p : Path) (t : Tag) : (s.grantHost d p t).walk = s.walk := by
  unfold State.grantHost; split <;> simp
@[simp] theorem State.grantHost_trackWalk (s : State) (d : Drive) (p : Path) (t : Tag) : (s.grantHost d p t).trackWalk = s.trackWalk := by
  unfold State.grantHost; split <;> simp
@[simp] theorem State.grantHost_notes (s : State) (d : Drive) (p : Path) (t : Tag) : (s.grantHost d p t).notes = s.notes := by
  unfold State.grantHost; split <;> simp
@[simp] theorem State.grantHost_watch (s : State) (d : Drive) (p : Path) (t : Tag) : (s.grantHost d p t).watch = s.watch := by
  unfold State.grantHost; split <;> simp
@[simp] theorem State.grantHost_relocQ (s : State) (d : Drive) (p : Path) (t : Tag) : (s.grantHost d p t).relocQ = s.relocQ := by
  unfold State.grantHost; split <;> simp
@[simp] theorem State.grantHost_reloc (s : State) (d : Drive) (p : Path) (t : Tag) : (s.grantHost d p t).reloc = s.reloc := by
  unfold State.grantHost; split <;> simp
@[simp] theorem State.grantHost_buffer (s : State) (d : Drive) (p : Path) (t : Tag) : (s.grantHost d p t).buffer = s.buffer := by
  unfold State.grantHost; split <;> simp
@[simp] theorem State.grantHost_map (s : State) (d : Drive) (p : Path) (t : Tag) : (s.grantHost d p t).map = s.map := by
  unfold State.grantHost; split <;> simp
@[simp] theorem State.grantHost_lastRead (s : State) (d : Drive) (p : Path) (t : Tag) : (s.grantHost d p t).lastRead = s.lastRead := by
  unfold State.grantHost; split <;> simp
@[simp] theorem State.grantHost_choices (s : State) (d : Drive) (p : Path) (t : Tag) : (s.grantHost d p t).choices = s.choices := by
  unfold State.grantHost; split <;> simp

/-! ### `State.issueStep` -/

@[simp] theorem State.issueStep_mon (s : State) (d : Drive) (l : List LadderStep) (n : Nat) (write : Bool) : (s.issueStep d l n write).mon = s.mon := by
  unfold State.issueStep; split <;> simp
@[simp] theorem State.issueStep_queues (s : State) (d : Drive) (l : List LadderStep) (n : Nat) (write : Bool) : (s.issueStep d l n write).queues = s.queues := by
  unfold State.issueStep; split <;> simp
@[simp] theorem State.issueStep_scans (s : State) (d : Drive) (l : List LadderStep) (n : Nat) (write : Bool) : (s.issueStep d l n write).scans = s.scans := by
  unfold State.issueStep; split <;> simp
@[simp] theorem State.issueStep_reserved (s : State) (d : Drive) (l : List LadderStep) (n : Nat) (write : Bool) : (s.issueStep d l n write).reserved = s.reserved := by
  unfold State.issueStep; split <;> simp
@[simp] theorem State.issueStep_ports (s : State) (d : Drive) (l : List LadderStep) (n : Nat) (write : Bool) : (s.issueStep d l n write).ports = s.ports := by
  unfold State.issueStep; split <;> simp
@[simp] theorem State.issueStep_gate (s : State) (d : Drive) (l : List LadderStep) (n : Nat) (write : Bool) : (s.issueStep d l n write).gate = s.gate := by
  unfold State.issueStep; split <;> simp
@[simp] theorem State.issueStep_lastWrite (s : State) (d : Drive) (l : List LadderStep) (n : Nat) (write : Bool) : (s.issueStep d l n write).lastWrite = s.lastWrite := by
  unfold State.issueStep; split <;> simp
@[simp] theorem State.issueStep_engine (s : State) (d : Drive) (l : List LadderStep) (n : Nat) (write : Bool) : (s.issueStep d l n write).engine = s.engine := by
  unfold State.issueStep; split <;> simp
@[simp] theorem State.issueStep_walk (s : State) (d : Drive) (l : List LadderStep) (n : Nat) (write : Bool) : (s.issueStep d l n write).walk = s.walk := by
  unfold State.issueStep; split <;> simp
@[simp] theorem State.issueStep_trackWalk (s : State) (d : Drive) (l : List LadderStep) (n : Nat) (write : Bool) : (s.issueStep d l n write).trackWalk = s.trackWalk := by
  unfold State.issueStep; split <;> simp
@[simp] theorem State.issueStep_notes (s : State) (d : Drive) (l : List LadderStep) (n : Nat) (write : Bool) : (s.issueStep d l n write).notes = s.notes := by
  unfold State.issueStep; split <;> simp
@[simp] theorem State.issueStep_watch (s : State) (d : Drive) (l : List LadderStep) (n : Nat) (write : Bool) : (s.issueStep d l n write).watch = s.watch := by
  unfold State.issueStep; split <;> simp
@[simp] theorem State.issueStep_relocQ (s : State) (d : Drive) (l : List LadderStep) (n : Nat) (write : Bool) : (s.issueStep d l n write).relocQ = s.relocQ := by
  unfold State.issueStep; split <;> simp
@[simp] theorem State.issueStep_reloc (s : State) (d : Drive) (l : List LadderStep) (n : Nat) (write : Bool) : (s.issueStep d l n write).reloc = s.reloc := by
  unfold State.issueStep; split <;> simp
@[simp] theorem State.issueStep_buffer (s : State) (d : Drive) (l : List LadderStep) (n : Nat) (write : Bool) : (s.issueStep d l n write).buffer = s.buffer := by
  unfold State.issueStep; split <;> simp
@[simp] theorem State.issueStep_map (s : State) (d : Drive) (l : List LadderStep) (n : Nat) (write : Bool) : (s.issueStep d l n write).map = s.map := by
  unfold State.issueStep; split <;> simp
@[simp] theorem State.issueStep_lastRead (s : State) (d : Drive) (l : List LadderStep) (n : Nat) (write : Bool) : (s.issueStep d l n write).lastRead = s.lastRead := by
  unfold State.issueStep; split <;> simp
@[simp] theorem State.issueStep_choices (s : State) (d : Drive) (l : List LadderStep) (n : Nat) (write : Bool) : (s.issueStep d l n write).choices = s.choices := by
  unfold State.issueStep; split <;> simp

/-! ### `State.grantPass` -/

@[simp] theorem State.grantPass_side (s : State) (w : Work) : (s.grantPass w).side = s.side := rfl
@[simp] theorem State.grantPass_queues (s : State) (w : Work) : (s.grantPass w).queues = s.queues := rfl
@[simp] theorem State.grantPass_scans (s : State) (w : Work) : (s.grantPass w).scans = s.scans := rfl
@[simp] theorem State.grantPass_reserved (s : State) (w : Work) : (s.grantPass w).reserved = s.reserved := rfl
@[simp] theorem State.grantPass_ports (s : State) (w : Work) : (s.grantPass w).ports = s.ports := rfl
@[simp] theorem State.grantPass_gate (s : State) (w : Work) : (s.grantPass w).gate = s.gate := rfl
@[simp] theorem State.grantPass_lastWrite (s : State) (w : Work) : (s.grantPass w).lastWrite = s.lastWrite := rfl
@[simp] theorem State.grantPass_walk (s : State) (w : Work) : (s.grantPass w).walk = s.walk := rfl
@[simp] theorem State.grantPass_trackWalk (s : State) (w : Work) : (s.grantPass w).trackWalk = s.trackWalk := rfl
@[simp] theorem State.grantPass_notes (s : State) (w : Work) : (s.grantPass w).notes = s.notes := rfl
@[simp] theorem State.grantPass_watch (s : State) (w : Work) : (s.grantPass w).watch = s.watch := rfl
@[simp] theorem State.grantPass_relocQ (s : State) (w : Work) : (s.grantPass w).relocQ = s.relocQ := rfl
@[simp] theorem State.grantPass_reloc (s : State) (w : Work) : (s.grantPass w).reloc = s.reloc := rfl
@[simp] theorem State.grantPass_buffer (s : State) (w : Work) : (s.grantPass w).buffer = s.buffer := rfl
@[simp] theorem State.grantPass_map (s : State) (w : Work) : (s.grantPass w).map = s.map := rfl
@[simp] theorem State.grantPass_lastRead (s : State) (w : Work) : (s.grantPass w).lastRead = s.lastRead := rfl
@[simp] theorem State.grantPass_choices (s : State) (w : Work) : (s.grantPass w).choices = s.choices := rfl

/-! ### `State.beginRevolution` -/

@[simp] theorem State.beginRevolution_mon (s : State) (d : Drive) : (s.beginRevolution d).mon = s.mon := by
  unfold State.beginRevolution; dsimp only
  repeat' split
  all_goals simp
@[simp] theorem State.beginRevolution_side (s : State) (d : Drive) : (s.beginRevolution d).side = s.side := by
  unfold State.beginRevolution; dsimp only
  repeat' split
  all_goals simp
@[simp] theorem State.beginRevolution_queues (s : State) (d : Drive) : (s.beginRevolution d).queues = s.queues := by
  unfold State.beginRevolution; dsimp only
  repeat' split
  all_goals simp
@[simp] theorem State.beginRevolution_scans (s : State) (d : Drive) : (s.beginRevolution d).scans = s.scans := by
  unfold State.beginRevolution; dsimp only
  repeat' split
  all_goals simp
@[simp] theorem State.beginRevolution_reserved (s : State) (d : Drive) : (s.beginRevolution d).reserved = s.reserved := by
  unfold State.beginRevolution; dsimp only
  repeat' split
  all_goals simp
@[simp] theorem State.beginRevolution_ports (s : State) (d : Drive) : (s.beginRevolution d).ports = s.ports := by
  unfold State.beginRevolution; dsimp only
  repeat' split
  all_goals simp
@[simp] theorem State.beginRevolution_gate (s : State) (d : Drive) : (s.beginRevolution d).gate = s.gate := by
  unfold State.beginRevolution; dsimp only
  repeat' split
  all_goals simp
@[simp] theorem State.beginRevolution_lastWrite (s : State) (d : Drive) : (s.beginRevolution d).lastWrite = s.lastWrite := by
  unfold State.beginRevolution; dsimp only
  repeat' split
  all_goals simp
@[simp] theorem State.beginRevolution_engine (s : State) (d : Drive) : (s.beginRevolution d).engine = s.engine := by
  unfold State.beginRevolution; dsimp only
  repeat' split
  all_goals simp
@[simp] theorem State.beginRevolution_walk (s : State) (d : Drive) : (s.beginRevolution d).walk = s.walk := by
  unfold State.beginRevolution; dsimp only
  repeat' split
  all_goals simp
@[simp] theorem State.beginRevolution_trackWalk (s : State) (d : Drive) : (s.beginRevolution d).trackWalk = s.trackWalk := by
  unfold State.beginRevolution; dsimp only
  repeat' split
  all_goals simp
@[simp] theorem State.beginRevolution_notes (s : State) (d : Drive) : (s.beginRevolution d).notes = s.notes := by
  unfold State.beginRevolution; dsimp only
  repeat' split
  all_goals simp
@[simp] theorem State.beginRevolution_watch (s : State) (d : Drive) : (s.beginRevolution d).watch = s.watch := by
  unfold State.beginRevolution; dsimp only
  repeat' split
  all_goals simp
@[simp] theorem State.beginRevolution_relocQ (s : State) (d : Drive) : (s.beginRevolution d).relocQ = s.relocQ := by
  unfold State.beginRevolution; dsimp only
  repeat' split
  all_goals simp
@[simp] theorem State.beginRevolution_buffer (s : State) (d : Drive) : (s.beginRevolution d).buffer = s.buffer := by
  unfold State.beginRevolution; dsimp only
  repeat' split
  all_goals simp
@[simp] theorem State.beginRevolution_map (s : State) (d : Drive) : (s.beginRevolution d).map = s.map := by
  unfold State.beginRevolution; dsimp only
  repeat' split
  all_goals simp
@[simp] theorem State.beginRevolution_lastRead (s : State) (d : Drive) : (s.beginRevolution d).lastRead = s.lastRead := by
  unfold State.beginRevolution; dsimp only
  repeat' split
  all_goals simp
@[simp] theorem State.beginRevolution_choices (s : State) (d : Drive) : (s.beginRevolution d).choices = s.choices := by
  unfold State.beginRevolution; dsimp only
  repeat' split
  all_goals simp

/-! ### `State.passGranted` -/

@[simp] theorem State.passGranted_mon (s : State) (w : Work) : (s.passGranted w).mon = s.mon := by
  unfold State.passGranted; dsimp only
  repeat' split
  all_goals simp
@[simp] theorem State.passGranted_queues (s : State) (w : Work) : (s.passGranted w).queues = s.queues := by
  unfold State.passGranted; dsimp only
  repeat' split
  all_goals simp
@[simp] theorem State.passGranted_reserved (s : State) (w : Work) : (s.passGranted w).reserved = s.reserved := by
  unfold State.passGranted; dsimp only
  repeat' split
  all_goals simp
@[simp] theorem State.passGranted_ports (s : State) (w : Work) : (s.passGranted w).ports = s.ports := by
  unfold State.passGranted; dsimp only
  repeat' split
  all_goals simp
@[simp] theorem State.passGranted_gate (s : State) (w : Work) : (s.passGranted w).gate = s.gate := by
  unfold State.passGranted; dsimp only
  repeat' split
  all_goals simp
@[simp] theorem State.passGranted_lastWrite (s : State) (w : Work) : (s.passGranted w).lastWrite = s.lastWrite := by
  unfold State.passGranted; dsimp only
  repeat' split
  all_goals simp
@[simp] theorem State.passGranted_engine (s : State) (w : Work) : (s.passGranted w).engine = s.engine := by
  unfold State.passGranted; dsimp only
  repeat' split
  all_goals simp
@[simp] theorem State.passGranted_walk (s : State) (w : Work) : (s.passGranted w).walk = s.walk := by
  unfold State.passGranted; dsimp only
  repeat' split
  all_goals simp
@[simp] theorem State.passGranted_notes (s : State) (w : Work) : (s.passGranted w).notes = s.notes := by
  unfold State.passGranted; dsimp only
  repeat' split
  all_goals simp
@[simp] theorem State.passGranted_watch (s : State) (w : Work) : (s.passGranted w).watch = s.watch := by
  unfold State.passGranted; dsimp only
  repeat' split
  all_goals simp
@[simp] theorem State.passGranted_relocQ (s : State) (w : Work) : (s.passGranted w).relocQ = s.relocQ := by
  unfold State.passGranted; dsimp only
  repeat' split
  all_goals simp
@[simp] theorem State.passGranted_buffer (s : State) (w : Work) : (s.passGranted w).buffer = s.buffer := by
  unfold State.passGranted; dsimp only
  repeat' split
  all_goals simp
@[simp] theorem State.passGranted_map (s : State) (w : Work) : (s.passGranted w).map = s.map := by
  unfold State.passGranted; dsimp only
  repeat' split
  all_goals simp
@[simp] theorem State.passGranted_lastRead (s : State) (w : Work) : (s.passGranted w).lastRead = s.lastRead := by
  unfold State.passGranted; dsimp only
  repeat' split
  all_goals simp
@[simp] theorem State.passGranted_choices (s : State) (w : Work) : (s.passGranted w).choices = s.choices := by
  unfold State.passGranted; dsimp only
  repeat' split
  all_goals simp

/-! ### `State.grantBest` -/

@[simp] theorem State.grantBest_queues (s : State) : (s.grantBest).queues = s.queues := by
  unfold State.grantBest
  repeat' split
  all_goals simp
@[simp] theorem State.grantBest_reserved (s : State) : (s.grantBest).reserved = s.reserved := by
  unfold State.grantBest
  repeat' split
  all_goals simp
@[simp] theorem State.grantBest_gate (s : State) : (s.grantBest).gate = s.gate := by
  unfold State.grantBest
  repeat' split
  all_goals simp
@[simp] theorem State.grantBest_lastWrite (s : State) : (s.grantBest).lastWrite = s.lastWrite := by
  unfold State.grantBest
  repeat' split
  all_goals simp
@[simp] theorem State.grantBest_walk (s : State) : (s.grantBest).walk = s.walk := by
  unfold State.grantBest
  repeat' split
  all_goals simp
@[simp] theorem State.grantBest_notes (s : State) : (s.grantBest).notes = s.notes := by
  unfold State.grantBest
  repeat' split
  all_goals simp
@[simp] theorem State.grantBest_watch (s : State) : (s.grantBest).watch = s.watch := by
  unfold State.grantBest
  repeat' split
  all_goals simp
@[simp] theorem State.grantBest_relocQ (s : State) : (s.grantBest).relocQ = s.relocQ := by
  unfold State.grantBest
  repeat' split
  all_goals simp
@[simp] theorem State.grantBest_buffer (s : State) : (s.grantBest).buffer = s.buffer := by
  unfold State.grantBest
  repeat' split
  all_goals simp
@[simp] theorem State.grantBest_map (s : State) : (s.grantBest).map = s.map := by
  unfold State.grantBest
  repeat' split
  all_goals simp
@[simp] theorem State.grantBest_lastRead (s : State) : (s.grantBest).lastRead = s.lastRead := by
  unfold State.grantBest
  repeat' split
  all_goals simp
@[simp] theorem State.grantBest_choices (s : State) : (s.grantBest).choices = s.choices := by
  unfold State.grantBest
  repeat' split
  all_goals simp

/-! ### `State.portsFirst` -/

@[simp] theorem State.portsFirst_mon (s : State) (n : Nat) : (s.portsFirst n).mon = s.mon := by
  induction n generalizing s with
  | zero => rfl
  | succ n ih =>
    unfold State.portsFirst; split
    · split
      · dsimp only; split
        · rw [ih]; simp
        · simp
      · rfl
    · rfl
@[simp] theorem State.portsFirst_side (s : State) (n : Nat) : (s.portsFirst n).side = s.side := by
  induction n generalizing s with
  | zero => rfl
  | succ n ih =>
    unfold State.portsFirst; split
    · split
      · dsimp only; split
        · rw [ih]; simp
        · simp
      · rfl
    · rfl
@[simp] theorem State.portsFirst_queues (s : State) (n : Nat) : (s.portsFirst n).queues = s.queues := by
  induction n generalizing s with
  | zero => rfl
  | succ n ih =>
    unfold State.portsFirst; split
    · split
      · dsimp only; split
        · rw [ih]; simp
        · simp
      · rfl
    · rfl
@[simp] theorem State.portsFirst_scans (s : State) (n : Nat) : (s.portsFirst n).scans = s.scans := by
  induction n generalizing s with
  | zero => rfl
  | succ n ih =>
    unfold State.portsFirst; split
    · split
      · dsimp only; split
        · rw [ih]; simp
        · simp
      · rfl
    · rfl
@[simp] theorem State.portsFirst_reserved (s : State) (n : Nat) : (s.portsFirst n).reserved = s.reserved := by
  induction n generalizing s with
  | zero => rfl
  | succ n ih =>
    unfold State.portsFirst; split
    · split
      · dsimp only; split
        · rw [ih]; simp
        · simp
      · rfl
    · rfl
@[simp] theorem State.portsFirst_gate (s : State) (n : Nat) : (s.portsFirst n).gate = s.gate := by
  induction n generalizing s with
  | zero => rfl
  | succ n ih =>
    unfold State.portsFirst; split
    · split
      · dsimp only; split
        · rw [ih]; simp
        · simp
      · rfl
    · rfl
@[simp] theorem State.portsFirst_lastWrite (s : State) (n : Nat) : (s.portsFirst n).lastWrite = s.lastWrite := by
  induction n generalizing s with
  | zero => rfl
  | succ n ih =>
    unfold State.portsFirst; split
    · split
      · dsimp only; split
        · rw [ih]; simp
        · simp
      · rfl
    · rfl
@[simp] theorem State.portsFirst_engine (s : State) (n : Nat) : (s.portsFirst n).engine = s.engine := by
  induction n generalizing s with
  | zero => rfl
  | succ n ih =>
    unfold State.portsFirst; split
    · split
      · dsimp only; split
        · rw [ih]; simp
        · simp
      · rfl
    · rfl
@[simp] theorem State.portsFirst_walk (s : State) (n : Nat) : (s.portsFirst n).walk = s.walk := by
  induction n generalizing s with
  | zero => rfl
  | succ n ih =>
    unfold State.portsFirst; split
    · split
      · dsimp only; split
        · rw [ih]; simp
        · simp
      · rfl
    · rfl
@[simp] theorem State.portsFirst_trackWalk (s : State) (n : Nat) : (s.portsFirst n).trackWalk = s.trackWalk := by
  induction n generalizing s with
  | zero => rfl
  | succ n ih =>
    unfold State.portsFirst; split
    · split
      · dsimp only; split
        · rw [ih]; simp
        · simp
      · rfl
    · rfl
@[simp] theorem State.portsFirst_notes (s : State) (n : Nat) : (s.portsFirst n).notes = s.notes := by
  induction n generalizing s with
  | zero => rfl
  | succ n ih =>
    unfold State.portsFirst; split
    · split
      · dsimp only; split
        · rw [ih]; simp
        · simp
      · rfl
    · rfl
@[simp] theorem State.portsFirst_watch (s : State) (n : Nat) : (s.portsFirst n).watch = s.watch := by
  induction n generalizing s with
  | zero => rfl
  | succ n ih =>
    unfold State.portsFirst; split
    · split
      · dsimp only; split
        · rw [ih]; simp
        · simp
      · rfl
    · rfl
@[simp] theorem State.portsFirst_relocQ (s : State) (n : Nat) : (s.portsFirst n).relocQ = s.relocQ := by
  induction n generalizing s with
  | zero => rfl
  | succ n ih =>
    unfold State.portsFirst; split
    · split
      · dsimp only; split
        · rw [ih]; simp
        · simp
      · rfl
    · rfl
@[simp] theorem State.portsFirst_reloc (s : State) (n : Nat) : (s.portsFirst n).reloc = s.reloc := by
  induction n generalizing s with
  | zero => rfl
  | succ n ih =>
    unfold State.portsFirst; split
    · split
      · dsimp only; split
        · rw [ih]; simp
        · simp
      · rfl
    · rfl
@[simp] theorem State.portsFirst_buffer (s : State) (n : Nat) : (s.portsFirst n).buffer = s.buffer := by
  induction n generalizing s with
  | zero => rfl
  | succ n ih =>
    unfold State.portsFirst; split
    · split
      · dsimp only; split
        · rw [ih]; simp
        · simp
      · rfl
    · rfl
@[simp] theorem State.portsFirst_map (s : State) (n : Nat) : (s.portsFirst n).map = s.map := by
  induction n generalizing s with
  | zero => rfl
  | succ n ih =>
    unfold State.portsFirst; split
    · split
      · dsimp only; split
        · rw [ih]; simp
        · simp
      · rfl
    · rfl
@[simp] theorem State.portsFirst_lastRead (s : State) (n : Nat) : (s.portsFirst n).lastRead = s.lastRead := by
  induction n generalizing s with
  | zero => rfl
  | succ n ih =>
    unfold State.portsFirst; split
    · split
      · dsimp only; split
        · rw [ih]; simp
        · simp
      · rfl
    · rfl

/-! ### `State.grant` -/

@[simp] theorem State.grant_queues (s : State) : (s.grant).queues = s.queues := by
  unfold State.grant; split <;> simp
@[simp] theorem State.grant_reserved (s : State) : (s.grant).reserved = s.reserved := by
  unfold State.grant; split <;> simp
@[simp] theorem State.grant_gate (s : State) : (s.grant).gate = s.gate := by
  unfold State.grant; split <;> simp
@[simp] theorem State.grant_lastWrite (s : State) : (s.grant).lastWrite = s.lastWrite := by
  unfold State.grant; split <;> simp
@[simp] theorem State.grant_walk (s : State) : (s.grant).walk = s.walk := by
  unfold State.grant; split <;> simp
@[simp] theorem State.grant_notes (s : State) : (s.grant).notes = s.notes := by
  unfold State.grant; split <;> simp
@[simp] theorem State.grant_watch (s : State) : (s.grant).watch = s.watch := by
  unfold State.grant; split <;> simp
@[simp] theorem State.grant_relocQ (s : State) : (s.grant).relocQ = s.relocQ := by
  unfold State.grant; split <;> simp
@[simp] theorem State.grant_buffer (s : State) : (s.grant).buffer = s.buffer := by
  unfold State.grant; split <;> simp
@[simp] theorem State.grant_map (s : State) : (s.grant).map = s.map := by
  unfold State.grant; split <;> simp
@[simp] theorem State.grant_lastRead (s : State) : (s.grant).lastRead = s.lastRead := by
  unfold State.grant; split <;> simp

/-! ### `State.settle` -/

@[simp] theorem State.settle_queues (s : State) : (s.settle).queues = s.queues := by
  simp [State.settle]
@[simp] theorem State.settle_reserved (s : State) : (s.settle).reserved = s.reserved := by
  simp [State.settle]
@[simp] theorem State.settle_gate (s : State) : (s.settle).gate = s.gate := by
  simp [State.settle]
@[simp] theorem State.settle_lastWrite (s : State) : (s.settle).lastWrite = s.lastWrite := by
  simp [State.settle]
@[simp] theorem State.settle_walk (s : State) : (s.settle).walk = s.walk := by
  simp [State.settle]
@[simp] theorem State.settle_notes (s : State) : (s.settle).notes = s.notes := by
  simp [State.settle]
@[simp] theorem State.settle_watch (s : State) : (s.settle).watch = s.watch := by
  simp [State.settle]
@[simp] theorem State.settle_relocQ (s : State) : (s.settle).relocQ = s.relocQ := by
  simp [State.settle]
@[simp] theorem State.settle_buffer (s : State) : (s.settle).buffer = s.buffer := by
  simp [State.settle]
@[simp] theorem State.settle_map (s : State) : (s.settle).map = s.map := by
  simp [State.settle]
@[simp] theorem State.settle_lastRead (s : State) : (s.settle).lastRead = s.lastRead := by
  simp [State.settle]

end Sys2Proof.Machine
end

