-- ==== Sys2Proof/Laws/Lists.lean ====
section
/-! SUPPORT. What the operations on the spare map, the watch list, the drive queues and the engine's candidates do to their lists. -/

namespace Sys2Proof.Machine

/-! ## Drive queues -/

/-- A change to one request's record leaves every other record, and the order, as they are. -/
theorem State.updReq_queue (s : State) (d e : Drive) (p : Path) (t : Tag) (f : Request → Request) :
    (s.updReq d p t f).queue e =
      if e = d then (s.queue d).map fun r => if r.is p t then f r else r else s.queue e := by
  unfold State.updReq State.queue State.setQueue
  by_cases h : e = d
  · subst h; simp
  · simp [h, PerDrive.get_set_other _ _ _ _ h]

/-- A request found by path and tag is in its queue and has them. -/
theorem State.req?_sound {s : State} {d : Drive} {p : Path} {t : Tag} {r : Request} (h : s.req? d p t = some r) :
    r ∈ s.queue d ∧ r.path = p ∧ r.tag = t := by
  have h2 := List.find?_some h
  simp only [Request.is, decide_eq_true_eq] at h2
  exact ⟨List.mem_of_find?_eq_some h, h2⟩

/-- The request in service is in its queue and IN SERVICE. -/
theorem State.serving_sound {s : State} {d : Drive} {r : Request} (h : s.serving d = some r) :
    r ∈ s.queue d ∧ r.inService = true :=
  ⟨List.mem_of_find?_eq_some h, by simpa using List.find?_some h⟩

/-! ## Spare map -/

/-- A record enters the map beside those that are there (R33). -/
theorem mem_insertRec (r x : MapRec) (l : List MapRec) : x ∈ insertRec r l ↔ x = r ∨ x ∈ l := by
  induction l with
  | nil => simp [insertRec]
  | cons y ys ih =>
    unfold insertRec
    split
    · simp
    · simp only [List.mem_cons, ih]
      exact or_left_comm

/-- The map grows by one record. -/
@[simp] theorem length_insertRec (r : MapRec) (l : List MapRec) : (insertRec r l).length = l.length + 1 := by
  induction l with
  | nil => rfl
  | cons y ys ih =>
    unfold insertRec
    split <;> simp [ih]

/-- The order of records reads as the order of their keys. -/
theorem MapRec.before_iff (a b : MapRec) :
    a.before b = true ↔ a.drive < b.drive ∨
      (a.drive = b.drive ∧ (a.alt.cyl < b.alt.cyl ∨ (a.alt.cyl = b.alt.cyl ∧ a.alt.head < b.alt.head))) := by
  simp [MapRec.before, Track.before]

/-- The order of records is transitive. -/
theorem MapRec.before_trans {a b c : MapRec} (h1 : a.before b = true) (h2 : b.before c = true) :
    a.before c = true := by
  rw [MapRec.before_iff] at *
  simp only [Fin.lt_def, Fin.ext_iff] at *
  omega

/-- Two records of different keys stand one before the other. -/
theorem MapRec.before_total {a b : MapRec} (h : ¬(a.drive = b.drive ∧ a.alt = b.alt)) :
    a.before b = true ∨ b.before a = true := by
  rw [MapRec.before_iff, MapRec.before_iff]
  obtain ⟨da, ⟨ca, ha⟩, ka⟩ := a
  obtain ⟨db, ⟨cb, hb⟩, kb⟩ := b
  simp only [Track.mk.injEq, Fin.lt_def, Fin.ext_iff] at *
  omega

/-- A record of a new key keeps the map in strictly ascending order (R33). -/
theorem insertRec_sorted (r : MapRec) (l : List MapRec) (h : l.Pairwise fun a b => a.before b = true)
    (hn : ∀ x ∈ l, ¬(r.drive = x.drive ∧ r.alt = x.alt)) :
    (insertRec r l).Pairwise fun a b => a.before b = true := by
  induction l with
  | nil => simp [insertRec]
  | cons y ys ih =>
    obtain ⟨hy, hys⟩ := List.pairwise_cons.1 h
    unfold insertRec
    split
    · rename_i hr
      refine List.pairwise_cons.2 ⟨fun x hx => ?_, h⟩
      rcases List.mem_cons.1 hx with rfl | hx
      · exact hr
      · exact MapRec.before_trans hr (hy x hx)
    · rename_i hr
      have hyr : y.before r = true :=
        (MapRec.before_total (hn y (by simp))).resolve_left hr
      refine List.pairwise_cons.2 ⟨fun x hx => ?_, ih hys fun x hx => hn x (List.mem_cons_of_mem _ hx)⟩
      rcases (mem_insertRec r x ys).1 hx with rfl | hx
      · exact hyr
      · exact hy x hx

/-- The lowest FREE alternate is an alternate of the drive that no record names (R40). -/
theorem lowestFree_sound {map : List MapRec} {g : Geometry} {d : Drive} {t : Track}
    (h : lowestFree map g d = some t) : t ∈ g.alternates ∧ ∀ x ∈ map, ¬(x.drive = d ∧ x.alt = t) := by
  refine ⟨List.mem_of_find?_eq_some h, fun x hx hk => ?_⟩
  have hf := List.find?_some h
  simp only [decide_eq_true_eq] at hf
  unfold poolState at hf
  split at hf
  · rename_i hm
    have := List.find?_eq_none.1 hm x hx
    simp [hk.1, hk.2] at this
  · split at hf <;> cases hf

/-- What the translation unit's answer and the map after it are (R36). -/
theorem State.createPending_map (s : State) (d : Drive) (home : Track) :
    (s.createPending d home).map =
      match s.createAnswer d with
      | .alternate t => insertRec ⟨d, t, .pending home⟩ s.map
      | _ => s.map := by
  unfold State.createPending
  cases s.createAnswer d <;> rfl

/-- Activation and withdrawal change the kinds of records, not their keys (R37, R38). -/
theorem MapRec.activate_key (d : Drive) (home : Track) (r : MapRec) :
    (r.activate d home).drive = r.drive ∧ (r.activate d home).alt = r.alt := by
  unfold MapRec.activate
  repeat' split
  all_goals exact ⟨rfl, rfl⟩

theorem MapRec.withdraw_key (d : Drive) (r : MapRec) :
    (r.withdraw d).drive = r.drive ∧ (r.withdraw d).alt = r.alt := by
  unfold MapRec.withdraw
  split <;> exact ⟨rfl, rfl⟩

/-! ## Watch list -/

/-- The first element that `p` holds of leaves; the others keep their order. -/
theorem dropFirst_sublist {α : Type} (p : α → Bool) (l : List α) : (dropFirst p l).Sublist l := by
  induction l with
  | nil => exact List.Sublist.refl _
  | cons x xs ih =>
    unfold dropFirst
    split
    · exact List.sublist_cons_self x xs
    · exact ih.cons_cons x

/-- The element that leaves, when it is the first that `p` holds of. -/
theorem dropFirst_split {α : Type} (p : α → Bool) (pre : List α) (x : α) (post : List α)
    (h : ∀ y ∈ pre, p y = false) (hx : p x = true) : dropFirst p (pre ++ x :: post) = pre ++ post := by
  induction pre with
  | nil => simp [dropFirst, hx]
  | cons y ys ih =>
    have hy := h y (by simp)
    simp [dropFirst, hy, ih fun z hz => h z (by simp [hz])]

/-- The watch list never grows past 16 entries by a report (R111, R113). -/
theorem addWeight_length (l : List WatchEntry) (d : Drive) (t : Track) (w : Nat) (h : l.length ≤ 16) :
    (addWeight l d t w).length ≤ 16 := by
  unfold addWeight
  split
  · simpa using h
  · have hc : Config.watchCapacity = 16 := rfl
    have he : (evict l).length ≤ l.length := by
      unfold evict
      split
      · exact (dropFirst_sublist _ l).length_le
      · exact Nat.le_refl _
    dsimp only
    by_cases hl : l.length < Config.watchCapacity
    · rw [if_pos hl, if_pos hl]
      simp only [List.length_append, List.length_cons, List.length_nil]
      omega
    · rw [if_neg hl]
      split
      · simp only [List.length_append, List.length_cons, List.length_nil]
        omega
      · omega

/-! ## Candidates -/

/-- Work that is offered is in the list, once; the rest of the engine stays. -/
theorem State.offer_engine (s : State) (w : Work) :
    (s.offer w).engine = if w ∈ s.engine.candidates then s.engine
      else { s.engine with candidates := s.engine.candidates ++ [w] } := by
  unfold State.offer
  split <;> rfl

/-- Work that leaves is in the list no more; the rest of the engine stays. -/
theorem State.unoffer_engine (s : State) (w : Work) :
    (s.unoffer w).engine = { s.engine with candidates := s.engine.candidates.filter (· ≠ w) } := rfl

/-- The arbiter takes an eligible candidate of the list, if there is one (R71). -/
theorem State.bestHost_sound (s : State) (ws : List Work) :
    (s.bestHost ws = none → ∀ w ∈ ws, s.eligible w = false) ∧
    (∀ v, s.bestHost ws = some v → v ∈ ws ∧ s.eligible v = true) := by
  induction ws with
  | nil => simp [State.bestHost]
  | cons w ws ih =>
    unfold State.bestHost
    cases hw : s.eligible w
    · simp only [Bool.false_eq_true, if_false]
      refine ⟨fun h x hx => ?_, fun v h => ?_⟩
      · rcases List.mem_cons.1 hx with rfl | hx
        · exact hw
        · exact ih.1 h x hx
      · exact ⟨List.mem_cons_of_mem _ (ih.2 v h).1, (ih.2 v h).2⟩
    · simp only [if_true]
      cases hb : s.bestHost ws with
      | none =>
        refine ⟨fun h => by simp at h, fun v h => ?_⟩
        simp only [Option.some.injEq] at h
        subst h
        exact ⟨by simp, hw⟩
      | some b =>
        dsimp only
        refine ⟨fun h => ?_, fun v h => ?_⟩
        · split at h <;> cases h
        split at h
        · cases h
          exact ⟨List.mem_cons_of_mem _ (ih.2 b hb).1, (ih.2 b hb).2⟩
        · cases h
          exact ⟨by simp, hw⟩

end Sys2Proof.Machine
end

