-- ==== Sys2Proof/Laws/Notices.lean ====
section
/-! SUPPORT. What raising a notice, giving ROOM and RELEASED, and capturing an ending do to the ports (R49, R108, R147, R166). -/

namespace Sys2Proof.Machine

theorem mem_map_if {α : Type} (p : α → Prop) [DecidablePred p] (n m : α) (l : List α)
    (h : m ∈ l.map fun x => if p x then n else x) : m = n ∨ (m ∈ l ∧ ¬p m) := by
  obtain ⟨x, hx, rfl⟩ := List.mem_map.1 h
  split
  · exact .inl rfl
  · exact .inr ⟨hx, ‹_›⟩

/-- A raw set after a raise: the new member, and the old ones of every other kind or drive (R166). -/
theorem mem_addNotice (raw : List Notice) (n m : Notice) :
    m ∈ addNotice raw n ↔ m = n ∨ (m ∈ raw ∧ m.sameKey n = false) := by
  unfold addNotice
  split
  · rename_i h
    constructor
    · intro hm
      simpa using mem_map_if (fun x : Notice => x.sameKey n = true) n m raw hm
    · rintro (rfl | ⟨h1, h2⟩)
      · obtain ⟨x, hx, hk⟩ := List.any_eq_true.1 h
        exact List.mem_map.2 ⟨x, hx, by simp [hk]⟩
      · exact List.mem_map.2 ⟨m, h1, by simp [h2]⟩
  · rename_i h
    constructor
    · intro hm
      rcases List.mem_append.1 hm with h1 | h1
      · refine .inr ⟨h1, ?_⟩
        cases hk : m.sameKey n
        · rfl
        · exact absurd (List.any_eq_true.2 ⟨m, h1, hk⟩) h
      · exact .inl (by simpa using h1)
    · rintro (rfl | ⟨h1, _⟩)
      · simp
      · simp [h1]

/-- The port of a path after a raise on it. -/
theorem State.raise_port_same (s : State) (n : Notice) (p : Path) :
    (s.raise n p).port p = { s.port p with raw := addNotice (s.port p).raw n } := by
  simp [State.raise, State.port, State.setPort]

/-- The port of another path after a raise. -/
theorem State.raise_port_other (s : State) (n : Notice) (p q : Path) (h : q ≠ p) :
    (s.raise n p).port q = s.port q := by
  simp [State.raise, State.port, State.setPort, PerPath.get_set_other _ _ _ _ h]

/-- A raise to all five paths changes the raw set of each port and nothing else (R166). -/
theorem State.raiseAll_port (s : State) (n : Notice) (p : Path) :
    (s.raiseAll n).port p = { s.port p with raw := addNotice (s.port p).raw n } := by
  simp only [State.raiseAll, allPaths, List.foldl]
  cases p <;> simp [State.raise_port_same, State.raise_port_other]

/-- The raw set of every port after a raise to all five paths. -/
@[simp] theorem State.raiseAll_raw (s : State) (n : Notice) (p : Path) :
    ((s.raiseAll n).port p).raw = addNotice (s.port p).raw n := by
  rw [State.raiseAll_port]

/-- ROOM reaches a marked path, which loses its mark, and no other (R49). -/
theorem State.giveRoom_port (s : State) (d : Drive) (p q : Path) :
    (s.giveRoom d p).port q =
      if q = p ∧ (s.port p).awaitRoom.get d = true then
        { s.port p with
          awaitRoom := (s.port p).awaitRoom.set d false, raw := addNotice (s.port p).raw ⟨.room, d, .none⟩ }
      else s.port q := by
  unfold State.giveRoom
  by_cases h : (s.port p).awaitRoom.get d = true
  · rw [if_pos h]
    by_cases hq : q = p
    · subst hq
      rw [if_pos ⟨rfl, h⟩]
      simp [State.raise, State.port, State.setPort]
    · rw [if_neg fun x => hq x.1]
      simp [State.raise, State.port, State.setPort, PerPath.get_set_other _ _ _ _ hq]
  · rw [if_neg h, if_neg fun x => h x.2]

/-- RELEASED reaches a path that is marked or named, which loses its mark, and no other (R147). -/
theorem State.giveReleased_port (s : State) (d : Drive) (named : Bool) (p q : Path) :
    (s.giveReleased d named p).port q =
      if q = p ∧ ((s.port p).awaitRelease.get d = true ∨ named = true) then
        { s.port p with
          awaitRelease := (s.port p).awaitRelease.set d false
          raw := addNotice (s.port p).raw ⟨.released, d, .none⟩ }
      else s.port q := by
  unfold State.giveReleased
  by_cases h : ((s.port p).awaitRelease.get d || named) = true
  · have h' : (s.port p).awaitRelease.get d = true ∨ named = true := by simpa using h
    rw [if_pos h]
    by_cases hq : q = p
    · subst hq
      rw [if_pos ⟨rfl, h'⟩]
      simp [State.raise, State.port, State.setPort]
    · rw [if_neg fun x => hq x.1]
      simp [State.raise, State.port, State.setPort, PerPath.get_set_other _ _ _ _ hq]
  · have h' : ¬((s.port p).awaitRelease.get d = true ∨ named = true) := by simpa using h
    rw [if_neg h, if_neg fun x => h' x.2]

/-- A release leaves the drive UNRESERVED and every other drive's reservation as it is (R147). -/
theorem State.releaseDrive_reservedBy (s : State) (d e : Drive) (former : Option Nat) :
    (s.releaseDrive d former).reservedBy e = if e = d then none else s.reservedBy e := by
  have h : (s.releaseDrive d former).reserved = (s.setReserved d none).reserved :=
    State.foldl_keeps (·.reserved) _ _ (fun _ _ => by simp) _
  unfold State.reservedBy
  rw [h]
  by_cases he : e = d
  · subst he; simp [State.setReserved]
  · simp [he, State.setReserved, PerDrive.get_set_other _ _ _ _ he]

/-- The queue of a drive that loses entries. -/
@[simp] theorem State.loseEntries_queue (s : State) (d : Drive) (q : List Request) :
    (s.loseEntries d q).queue d = q := by
  unfold State.loseEntries
  split
  · have h : (allPaths.foldl (fun s p => s.giveRoom d p) (s.setQueue d q)).queues = (s.setQueue d q).queues :=
      State.foldl_keeps (·.queues) allPaths (fun s p => s.giveRoom d p) (fun _ _ => by simp) _
    unfold State.queue
    rw [h]
    simp [State.setQueue]
  · simp [State.queue, State.setQueue]

/-- The queue of any other drive. -/
theorem State.loseEntries_queue_other (s : State) (d e : Drive) (q : List Request) (he : e ≠ d) :
    (s.loseEntries d q).queue e = s.queue e := by
  unfold State.loseEntries
  split
  · have h : (allPaths.foldl (fun s p => s.giveRoom d p) (s.setQueue d q)).queues = (s.setQueue d q).queues :=
      State.foldl_keeps (·.queues) allPaths (fun s p => s.giveRoom d p) (fun _ _ => by simp) _
    unfold State.queue
    rw [h]
    simp [State.setQueue, PerDrive.get_set_other _ _ _ _ he]
  · simp [State.queue, State.setQueue, PerDrive.get_set_other _ _ _ _ he]

/-- What an ending frame that goes out does to its port's condition record (R108). -/
theorem State.capture_condition (s : State) (p : Path) (e : Ending) :
    ((s.capture p e).port p).condition =
      if e.code = .normal ∨ e.code = .abandoned then (s.port p).condition
      else
        match (s.port p).condition.held with
        | some c => ⟨some c, sat255 ((s.port p).condition.further + 1)⟩
        | none =>
          let n := if e.refusal then none else e.tag.bind (s.note? p)
          ⟨some ⟨if e.refusal then none else e.tag, e.code, e.drive, e.block, (match n with | some n => n.lastStep | none => 0),
            (match n with | some n => n.burst | none => 0)⟩, (s.port p).condition.further⟩ := by
  unfold State.capture
  split
  · rfl
  · simp only [State.port, State.setPort, PerPath.get_set_same]
    cases (s.ports.get p).condition.held <;> rfl

end Sys2Proof.Machine
end

