-- ==== Sys2Proof/Laws/PerInstr.lean ====
section
/-! SUPPORT. A family of statements about every command as syntax: which ports a well-formed decoder's turn names (R162). -/

namespace Sys2Proof.Laws

/-- The ports whose order frames have ended, of a command that is a decoder's turn. -/
def endedOf : Instr → Option (List Path)
  | .read ended => some ended
  | .write ended => some ended
  | .verify ended => some ended
  | .position ended => some ended
  | .reserve ended => some ended
  | .release ended => some ended
  | .recalibrate ended _ => some ended
  | .setGroup ended => some ended
  | .setNotices ended => some ended
  | .clearNotices ended => some ended
  | .reportCondition ended => some ended
  | .fetchGeometry ended => some ended
  | .fetchProfile ended => some ended
  | .fetchSpareMap ended => some ended
  | .fetchExtents ended => some ended
  | .fetchLadder ended => some ended
  | .fetchPolicy ended => some ended
  | .fetchWatch ended => some ended
  | .fetchDriveStatus ended => some ended
  | .loadTable ended => some ended
  | .assignAlternate ended => some ended
  | .forceRelease ended => some ended
  | .directorReset ended => some ended
  | .unknownOrderCode ended => some ended
  | _ => none

theorem endedWf_sound {ended : List Path} (h : endedWf ended = true) : ended ≠ [] ∧ ended.Nodup := by
  simpa [endedWf] using h

namespace EndedPorts

/-- A well-formed decoder's turn names at least one port, and none twice. -/
def Statement (i : Instr) : Prop :=
  i.wf = true → ∀ ended, endedOf i = some ended → ended ≠ [] ∧ ended.Nodup

theorem powerOnReset : Statement .powerOnReset := by
  intro _ e he
  cases he
theorem onlineRise (d : Drive) : Statement (.onlineRise d) := by
  intro _ e he
  cases he
theorem onlineFall (d : Drive) : Statement (.onlineFall d) := by
  intro _ e he
  cases he
theorem gateOpen (d : Drive) (high : Bool) : Statement (.gateOpen d high) := by
  intro _ e he
  cases he
theorem gateClose (d : Drive) (high : Bool) : Statement (.gateClose d high) := by
  intro _ e he
  cases he
theorem spinCheckGiveUp (d : Drive) (high : Bool) : Statement (.spinCheckGiveUp d high) := by
  intro _ e he
  cases he
theorem indexPulse (d : Drive) : Statement (.indexPulse d) := by
  intro _ e he
  cases he
theorem clockFault (d : Drive) : Statement (.clockFault d) := by
  intro _ e he
  cases he
theorem sectorPulse (d : Drive) (mark : Mark) : Statement (.sectorPulse d mark) := by
  intro _ e he
  cases he
theorem seekComplete (d : Drive) : Statement (.seekComplete d) := by
  intro _ e he
  cases he
theorem seekLimit (d : Drive) : Statement (.seekLimit d) := by
  intro _ e he
  cases he
theorem faultRise (d : Drive) : Statement (.faultRise d) := by
  intro _ e he
  cases he
theorem orderFrameBegin (p : Path) (frame : List Byte) : Statement (.orderFrameBegin p frame) := by
  intro _ e he
  cases he
theorem read (ended : List Path) : Statement (.read ended) := by
  intro h e he
  cases he
  exact endedWf_sound h
theorem write (ended : List Path) : Statement (.write ended) := by
  intro h e he
  cases he
  exact endedWf_sound h
theorem verify (ended : List Path) : Statement (.verify ended) := by
  intro h e he
  cases he
  exact endedWf_sound h
theorem position (ended : List Path) : Statement (.position ended) := by
  intro h e he
  cases he
  exact endedWf_sound h
theorem reserve (ended : List Path) : Statement (.reserve ended) := by
  intro h e he
  cases he
  exact endedWf_sound h
theorem release (ended : List Path) : Statement (.release ended) := by
  intro h e he
  cases he
  exact endedWf_sound h
theorem recalibrate (ended : List Path) (gone : Bool) : Statement (.recalibrate ended gone) := by
  intro h e he
  cases he
  exact endedWf_sound h
theorem setGroup (ended : List Path) : Statement (.setGroup ended) := by
  intro h e he
  cases he
  exact endedWf_sound h
theorem setNotices (ended : List Path) : Statement (.setNotices ended) := by
  intro h e he
  cases he
  exact endedWf_sound h
theorem clearNotices (ended : List Path) : Statement (.clearNotices ended) := by
  intro h e he
  cases he
  exact endedWf_sound h
theorem reportCondition (ended : List Path) : Statement (.reportCondition ended) := by
  intro h e he
  cases he
  exact endedWf_sound h
theorem fetchGeometry (ended : List Path) : Statement (.fetchGeometry ended) := by
  intro h e he
  cases he
  exact endedWf_sound h
theorem fetchProfile (ended : List Path) : Statement (.fetchProfile ended) := by
  intro h e he
  cases he
  exact endedWf_sound h
theorem fetchSpareMap (ended : List Path) : Statement (.fetchSpareMap ended) := by
  intro h e he
  cases he
  exact endedWf_sound h
theorem fetchExtents (ended : List Path) : Statement (.fetchExtents ended) := by
  intro h e he
  cases he
  exact endedWf_sound h
theorem fetchLadder (ended : List Path) : Statement (.fetchLadder ended) := by
  intro h e he
  cases he
  exact endedWf_sound h
theorem fetchPolicy (ended : List Path) : Statement (.fetchPolicy ended) := by
  intro h e he
  cases he
  exact endedWf_sound h
theorem fetchWatch (ended : List Path) : Statement (.fetchWatch ended) := by
  intro h e he
  cases he
  exact endedWf_sound h
theorem fetchDriveStatus (ended : List Path) : Statement (.fetchDriveStatus ended) := by
  intro h e he
  cases he
  exact endedWf_sound h
theorem resetPath (p : Path) : Statement (.resetPath p) := by
  intro _ e he
  cases he
theorem loadTable (ended : List Path) : Statement (.loadTable ended) := by
  intro h e he
  cases he
  exact endedWf_sound h
theorem assignAlternate (ended : List Path) : Statement (.assignAlternate ended) := by
  intro h e he
  cases he
  exact endedWf_sound h
theorem forceRelease (ended : List Path) : Statement (.forceRelease ended) := by
  intro h e he
  cases he
  exact endedWf_sound h
theorem directorReset (ended : List Path) : Statement (.directorReset ended) := by
  intro h e he
  cases he
  exact endedWf_sound h
theorem accept (p : Path) (frame : List Byte) : Statement (.accept p frame) := by
  intro _ e he
  cases he
theorem dataFrame (p : Path) (data : List Byte) (last : Bool) : Statement (.dataFrame p data last) := by
  intro _ e he
  cases he
theorem frameSent (p : Path) (portFirst : Bool) : Statement (.frameSent p portFirst) := by
  intro _ e he
  cases he
theorem endingFrameBegin (p : Path) : Statement (.endingFrameBegin p) := by
  intro _ e he
  cases he
theorem noticeFrameBegin (p : Path) : Statement (.noticeFrameBegin p) := by
  intro _ e he
  cases he
theorem selection (d : Drive) : Statement (.selection d) := by
  intro _ e he
  cases he
theorem stalled (e : MissEvent) : Statement (.stalled e) := by
  intro _ e he
  cases he
theorem sectorEnd (d : Drive) (yield : Yield) : Statement (.sectorEnd d yield) := by
  intro _ e he
  cases he
theorem relocationStart : Statement .relocationStart := by
  intro _ e he
  cases he
theorem readPassRevolutionEnd : Statement .readPassRevolutionEnd := by
  intro _ e he
  cases he
theorem trackWalkRevolutionEnd : Statement .trackWalkRevolutionEnd := by
  intro _ e he
  cases he
theorem commitBegin : Statement .commitBegin := by
  intro _ e he
  cases he
theorem verifyRevolutionEnd : Statement .verifyRevolutionEnd := by
  intro _ e he
  cases he
theorem scanPassStart (d : Drive) : Statement (.scanPassStart d) := by
  intro _ e he
  cases he
theorem scanPassComplete (d : Drive) : Statement (.scanPassComplete d) := by
  intro _ e he
  cases he
theorem unknownOrderCode (ended : List Path) : Statement (.unknownOrderCode ended) := by
  intro h e he
  cases he
  exact endedWf_sound h

end EndedPorts

end Sys2Proof.Laws
end

