-- ==== Sys2Proof/Laws/Requests.lean ====
section
/-! SUPPORT. What leaving the engine, ending a request and releasing the engine do (R50, R68, R70, R74, R159, R165). -/

namespace Sys2Proof.Machine

/-- A port after a drive queue has lost entries: its raw set and its room marks may have changed, nothing else (R49). -/
theorem State.loseEntries_port (s : State) (d : Drive) (q : List Request) (p : Path) :
    (s.loseEntries d q).port p = { s.port p with
      raw := ((s.loseEntries d q).port p).raw, awaitRoom := ((s.loseEntries d q).port p).awaitRoom } := by
  have key : ∀ (l : List Path) (x : State), ∃ raw room,
      (l.foldl (fun s p => s.giveRoom d p) x).port p = { x.port p with raw := raw, awaitRoom := room } := by
    intro l
    induction l with
    | nil => exact fun x => ⟨(x.port p).raw, (x.port p).awaitRoom, rfl⟩
    | cons y ys ih =>
      intro x
      obtain ⟨raw, room, h⟩ := ih (x.giveRoom d y)
      refine ⟨raw, room, ?_⟩
      rw [List.foldl_cons, h, State.giveRoom_port]
      split
      · rename_i hp
        rw [hp.1]
      · rfl
  unfold State.loseEntries
  split
  · obtain ⟨raw, room, h⟩ := key allPaths (s.setQueue d q)
    rw [h]
    rfl
  · rfl

/-- Leaving the engine: its release where the request holds it, the candidate's place where it has one (R70). -/
theorem State.detach_engine (s : State) (d : Drive) (p : Path) (t : Tag) :
    (s.detach d p t).engine =
      if s.holds d p t = true then Engine.freeWith (s.engine.candidates.filter (· ≠ .host d p t))
      else { s.engine with candidates := s.engine.candidates.filter (· ≠ .host d p t) } := by
  unfold State.detach
  by_cases h : s.holds d p t = true
  · rw [if_pos h, if_pos h]
    dsimp only
    split <;> simp [State.releaseEngine, State.unoffer]
  · rw [if_neg h, if_neg h]
    rfl

/-- Leaving the engine: the path of a recall being offered is FREE, any other port stays (R74). -/
theorem State.detach_port (s : State) (d : Drive) (p q : Path) (t : Tag) :
    (s.detach d p t).port q =
      if q = p ∧ s.holds d p t = true ∧ s.engine.phase = .recalling then
        { s.port q with link := .free, out := [] }
      else s.port q := by
  have hsame : (((s.unoffer (.host d p t)).releaseEngine.dropGate d).setWalk none).ports = s.ports := by simp
  unfold State.detach
  by_cases h : s.holds d p t = true
  · rw [if_pos h]
    dsimp only
    by_cases hr : s.engine.phase = .recalling
    · rw [if_pos hr]
      by_cases hq : q = p
      · rw [if_pos ⟨hq, h, hr⟩]
        subst hq
        simp only [State.freeLink, State.port, State.setPort, PerPath.get_set_same, hsame]
      · rw [if_neg fun x => hq x.1]
        simp only [State.freeLink, State.port, State.setPort, PerPath.get_set_other _ _ _ _ hq, hsame]
    · rw [if_neg hr, if_neg fun x => hr x.2.2]
      simp only [State.port, hsame]
  · rw [if_neg h, if_neg fun x => h x.2.1]
    rfl

/-- An ending takes exactly the requests of its path and tag out of its drive's queue (R50). -/
theorem State.endRequest_queue (s : State) (d e : Drive) (r : Request) (x : Ending) :
    (s.endRequest d r x).queue e =
      if e = d then (s.queue d).filter fun y => !y.is r.path r.tag else s.queue e := by
  unfold State.endRequest
  dsimp only
  have hq : ∀ f : Drive, State.queue (if s.connected d r.path r.tag = true then
      ((s.detach d r.path r.tag).setTag r.path r.tag .ending).send r.path [.ending x]
    else ((s.detach d r.path r.tag).setTag r.path r.tag .ending).setPort r.path
      { ((s.detach d r.path r.tag).setTag r.path r.tag .ending).port r.path with
        endings := (((s.detach d r.path r.tag).setTag r.path r.tag .ending).port r.path).endings ++ [x] }) f =
      s.queue f := by
    intro f
    unfold State.queue
    split <;> simp
  by_cases he : e = d
  · subst he
    rw [if_pos rfl, State.loseEntries_queue, hq]
  · rw [if_neg he, State.loseEntries_queue_other _ _ _ _ he, hq]

/-- An ending puts its tag slot in ENDING and leaves every other tag slot as it is (R159). -/
theorem State.endRequest_tags (s : State) (d : Drive) (r : Request) (x : Ending) (q : Path) :
    ((s.endRequest d r x).port q).tags =
      if q = r.path then (s.port q).tags.set r.tag .ending else (s.port q).tags := by
  have hd : ∀ q, ((s.detach d r.path r.tag).port q).tags = (s.port q).tags := by
    intro q
    rw [State.detach_port]
    split <;> rfl
  unfold State.endRequest
  dsimp only
  rw [State.loseEntries_port]
  dsimp only
  by_cases hq : q = r.path
  · subst hq
    rw [if_pos rfl]
    split <;> simp [State.send, State.setTag, State.port, State.setPort] <;>
      exact congrArg (·.set r.tag .ending) (hd _)
  · rw [if_neg hq]
    split <;> simp [State.send, State.setTag, State.port, State.setPort, PerPath.get_set_other _ _ _ _ hq] <;>
      exact hd q

end Sys2Proof.Machine
end

