-- ==== Sys2Proof/Laws/Standing.lean ====
section
/-! SUPPORT. What stands through the shared operations: the tables, the groups, the decoder's record, a load in progress and the waiting commands, with one lemma per operation. -/

namespace Sys2Proof.Machine

/-- The parts of State that only loads, SET GROUP, resets and the decoder's turn change. -/
def State.standing (s : State) :=
  (s.geometry, s.profiles, s.extents, s.ladder, s.policy, s.groups, s.lastHost, s.load, s.pending)

theorem State.standing_of_foldl {α : Type} (l : List α) (f : State → α → State)
    (h : ∀ s x, (f s x).standing = s.standing) (s : State) : (l.foldl f s).standing = s.standing := by
  induction l generalizing s with
  | nil => rfl
  | cons x xs ih => simp [List.foldl, ih, h]

@[simp] theorem State.setMon_standing (s : State) (d : Drive) (x : Monitor) : (s.setMon d x).standing = s.standing := rfl
@[simp] theorem State.setSide_standing (s : State) (d : Drive) (x : DriveSide) : (s.setSide d x).standing = s.standing := rfl
@[simp] theorem State.setQueue_standing (s : State) (d : Drive) (x : List Request) : (s.setQueue d x).standing = s.standing := rfl
@[simp] theorem State.setScan_standing (s : State) (d : Drive) (x : ScanState) : (s.setScan d x).standing = s.standing := rfl
@[simp] theorem State.setReserved_standing (s : State) (d : Drive) (x : Option Nat) : (s.setReserved d x).standing = s.standing := rfl
@[simp] theorem State.setPort_standing (s : State) (p : Path) (x : Port) : (s.setPort p x).standing = s.standing := rfl
@[simp] theorem State.setGate_standing (s : State) (x : Option Gate) : (s.setGate x).standing = s.standing := rfl
@[simp] theorem State.setLastWrite_standing (s : State) (x : Option WriteOut) : (s.setLastWrite x).standing = s.standing := rfl
@[simp] theorem State.setEngine_standing (s : State) (x : Engine) : (s.setEngine x).standing = s.standing := rfl
@[simp] theorem State.setWalk_standing (s : State) (x : Option BlockWalk) : (s.setWalk x).standing = s.standing := rfl
@[simp] theorem State.setTrackWalk_standing (s : State) (x : Option TrackWalk) : (s.setTrackWalk x).standing = s.standing := rfl
@[simp] theorem State.setNotes_standing (s : State) (x : List Note) : (s.setNotes x).standing = s.standing := rfl
@[simp] theorem State.setWatch_standing (s : State) (x : List WatchEntry) : (s.setWatch x).standing = s.standing := rfl
@[simp] theorem State.setRelocQ_standing (s : State) (x : List RelocEntry) : (s.setRelocQ x).standing = s.standing := rfl
@[simp] theorem State.setReloc_standing (s : State) (x : Option Reloc) : (s.setReloc x).standing = s.standing := rfl
@[simp] theorem State.setBuffer_standing (s : State) (x : Buffer) : (s.setBuffer x).standing = s.standing := rfl
@[simp] theorem State.setMap_standing (s : State) (x : List MapRec) : (s.setMap x).standing = s.standing := rfl
@[simp] theorem State.setLastRead_standing (s : State) (x : Option ReadOut) : (s.setLastRead x).standing = s.standing := rfl
@[simp] theorem State.setChoices_standing (s : State) (x : Nat) : (s.setChoices x).standing = s.standing := rfl

@[simp] theorem State.cmdSeek_standing (s : State) (d : Drive) (cyl : Nat) :
    (s.cmdSeek d cyl).standing = s.standing := rfl
@[simp] theorem State.cmdRecalibrate_standing (s : State) (d : Drive) :
    (s.cmdRecalibrate d).standing = s.standing := rfl
@[simp] theorem State.cmdHead_standing (s : State) (d : Drive) (h : Nat) :
    (s.cmdHead d h).standing = s.standing := rfl
@[simp] theorem State.cmdSettings_standing (s : State) (d : Drive) (o : Offset) (t : Strobe) :
    (s.cmdSettings d o t).standing = s.standing := rfl
@[simp] theorem State.cmdCentre_standing (s : State) (d : Drive) :
    (s.cmdCentre d).standing = s.standing := rfl
@[simp] theorem State.cmdFaultClear_standing (s : State) (d : Drive) (gone : Bool) :
    (s.cmdFaultClear d gone).standing = s.standing := rfl
@[simp] theorem State.raiseGate_standing (s : State) (d : Drive) (k : GateKind) :
    (s.raiseGate d k).standing = s.standing := rfl
@[simp] theorem State.dropGate_standing (s : State) (d : Drive) :
    (s.dropGate d).standing = s.standing := by
  unfold State.dropGate
  repeat' split
  all_goals simp
@[simp] theorem State.setDriveState_standing (s : State) (d : Drive) (st : DriveState) :
    (s.setDriveState d st).standing = s.standing := rfl
@[simp] theorem State.enterReady_standing (s : State) (d : Drive) :
    (s.enterReady d).standing = s.standing := rfl
@[simp] theorem State.setMarkCheck_standing (s : State) (d : Drive) (c : MarkCheck) :
    (s.setMarkCheck d c).standing = s.standing := rfl
@[simp] theorem State.startRecal_standing (s : State) (d : Drive) (why : Recal) (c : MarkCheck) :
    (s.startRecal d why c).standing = s.standing := rfl
@[simp] theorem State.askSeek_standing (s : State) (d : Drive) (t : Track) :
    (s.askSeek d t).standing = s.standing := by
  unfold State.askSeek; dsimp only; split <;> simp
@[simp] theorem State.clearIdle_standing (s : State) (d : Drive) :
    (s.clearIdle d).standing = s.standing := rfl
@[simp] theorem State.send_standing (s : State) (p : Path) (fs : List Frame) :
    (s.send p fs).standing = s.standing := rfl
@[simp] theorem State.freeLink_standing (s : State) (p : Path) :
    (s.freeLink p).standing = s.standing := rfl
@[simp] theorem State.setTag_standing (s : State) (p : Path) (t : Tag) (x : TagSlot) :
    (s.setTag p t x).standing = s.standing := rfl
@[simp] theorem State.updNote_standing (s : State) (p : Path) (t : Tag) (f : Note → Note) :
    (s.updNote p t f).standing = s.standing := by
  unfold State.updNote; split <;> simp
@[simp] theorem State.dropNote_standing (s : State) (p : Path) (t : Tag) :
    (s.dropNote p t).standing = s.standing := rfl
@[simp] theorem State.raise_standing (s : State) (n : Notice) (p : Path) :
    (s.raise n p).standing = s.standing := rfl
@[simp] theorem State.raiseAll_standing (s : State) (n : Notice) :
    (s.raiseAll n).standing = s.standing := State.standing_of_foldl _ _ (fun _ _ => by simp) s
@[simp] theorem State.markRoom_standing (s : State) (p : Path) (d : Drive) :
    (s.markRoom p d).standing = s.standing := rfl
@[simp] theorem State.giveRoom_standing (s : State) (d : Drive) (p : Path) :
    (s.giveRoom d p).standing = s.standing := by
  unfold State.giveRoom; split <;> simp
@[simp] theorem State.loseEntries_standing (s : State) (d : Drive) (q : List Request) :
    (s.loseEntries d q).standing = s.standing := by
  unfold State.loseEntries; split
  · exact State.standing_of_foldl _ _ (fun _ _ => by simp) _
  · simp
@[simp] theorem State.markRelease_standing (s : State) (p : Path) (d : Drive) :
    (s.markRelease p d).standing = s.standing := rfl
@[simp] theorem State.giveReleased_standing (s : State) (d : Drive) (named : Bool) (p : Path) :
    (s.giveReleased d named p).standing = s.standing := by
  unfold State.giveReleased; split <;> simp
@[simp] theorem State.releaseDrive_standing (s : State) (d : Drive) (former : Option Nat) :
    (s.releaseDrive d former).standing = s.standing := State.standing_of_foldl _ _ (fun _ _ => by simp) _
@[simp] theorem State.emptyGroup_standing (s : State) (g : Nat) :
    (s.emptyGroup g).standing = s.standing := by
  unfold State.emptyGroup; split
  · exact State.standing_of_foldl _ _ (fun _ _ => by split <;> simp) _
  · rfl
@[simp] theorem State.capture_standing (s : State) (p : Path) (e : Ending) :
    (s.capture p e).standing = s.standing := by
  unfold State.capture; split <;> simp
@[simp] theorem State.createPending_standing (s : State) (d : Drive) (home : Track) :
    (s.createPending d home).standing = s.standing := by
  unfold State.createPending; split <;> simp
@[simp] theorem State.activate_standing (s : State) (d : Drive) (home : Track) :
    (s.activate d home).standing = s.standing := rfl
@[simp] theorem State.withdraw_standing (s : State) (d : Drive) :
    (s.withdraw d).standing = s.standing := rfl
@[simp] theorem State.removePending_standing (s : State) (d : Drive) :
    (s.removePending d).standing = s.standing := rfl
@[simp] theorem State.replaceRecords_standing (s : State) (d : Drive) (rs : List MapRec) :
    (s.replaceRecords d rs).standing = s.standing := rfl
@[simp] theorem State.setQueued_standing (s : State) (d : Drive) (t : Track) :
    (s.setQueued d t).standing = s.standing := rfl
@[simp] theorem State.thresholdTest_standing (s : State) (d : Drive) (t : Track) :
    (s.thresholdTest d t).standing = s.standing := by
  unfold State.thresholdTest
  repeat' split
  all_goals simp
@[simp] theorem State.report_standing (s : State) (d : Drive) (t : Track) (w : Nat) :
    (s.report d t w).standing = s.standing := by
  unfold State.report; split <;> simp
@[simp] theorem State.forHome_standing (s : State) (d : Drive) (home : Track) (f : WatchEntry → WatchEntry) :
    (s.forHome d home f).standing = s.standing := rfl
@[simp] theorem State.leaveWalk_standing (s : State) (d : Drive) (sec : Nat) :
    (s.leaveWalk d sec).standing = s.standing := by
  unfold State.leaveWalk; dsimp only
  repeat' split
  all_goals simp
@[simp] theorem State.offerWrite_standing (s : State) (d : Drive) (t : Track) (sec : Nat) (bytes : List Byte) :
    (s.offerWrite d t sec bytes).standing = s.standing := by
  unfold State.offerWrite; dsimp only
  repeat' split
  all_goals simp
@[simp] theorem State.updReq_standing (s : State) (d : Drive) (p : Path) (t : Tag) (f : Request → Request) :
    (s.updReq d p t f).standing = s.standing := rfl
@[simp] theorem State.offer_standing (s : State) (w : Work) :
    (s.offer w).standing = s.standing := by
  unfold State.offer; split <;> simp
@[simp] theorem State.unoffer_standing (s : State) (w : Work) :
    (s.unoffer w).standing = s.standing := rfl
@[simp] theorem State.releaseEngine_standing (s : State) :
    (s.releaseEngine).standing = s.standing := rfl
@[simp] theorem State.detach_standing (s : State) (d : Drive) (p : Path) (t : Tag) :
    (s.detach d p t).standing = s.standing := by
  unfold State.detach; dsimp only
  repeat' split
  all_goals simp
@[simp] theorem State.endRequest_standing (s : State) (d : Drive) (r : Request) (e : Ending) :
    (s.endRequest d r e).standing = s.standing := by
  unfold State.endRequest; split <;> simp
@[simp] theorem State.endWith_standing (s : State) (d : Drive) (code : Code) (r : Request) :
    (s.endWith d code r).standing = s.standing := by
  simp [State.endWith]
@[simp] theorem State.takeMiss_standing (s : State) (d : Drive) :
    (s.takeMiss d).standing = s.standing := by
  unfold State.takeMiss; dsimp only
  repeat' split
  all_goals simp
@[simp] theorem State.clearEngineOf_standing (s : State) (d : Drive) :
    (s.clearEngineOf d).standing = s.standing := by
  unfold State.clearEngineOf; split <;> simp
@[simp] theorem State.endTrackWalk_standing (s : State) :
    (s.endTrackWalk).standing = s.standing := by
  unfold State.endTrackWalk; split <;> simp
@[simp] theorem State.abandonReloc_standing (s : State) :
    (s.abandonReloc).standing = s.standing := by
  unfold State.abandonReloc; split <;> simp
@[simp] theorem State.abandonRelocOf_standing (s : State) (d : Drive) :
    (s.abandonRelocOf d).standing = s.standing := by
  unfold State.abandonRelocOf
  repeat' split
  all_goals simp
@[simp] theorem State.loseDrive_standing (s : State) (d : Drive) (code : Code) :
    (s.loseDrive d code).standing = s.standing := by
  unfold State.loseDrive; dsimp only
  simp [State.standing_of_foldl (s.queue d) (fun s r => s.endWith d (if r.inService then code else .driveLost) r) (fun _ _ => by simp)]
@[simp] theorem State.enterFaulted_standing (s : State) (d : Drive) (cause : FaultCause) :
    (s.enterFaulted d cause).standing = s.standing := by
  simp [State.enterFaulted]
@[simp] theorem State.enterOffline_standing (s : State) (d : Drive) :
    (s.enterOffline d).standing = s.standing := by
  simp [State.enterOffline]
@[simp] theorem State.enterSpinCheck_standing (s : State) (d : Drive) :
    (s.enterSpinCheck d).standing = s.standing := rfl
@[simp] theorem State.trySpinCheck_standing (s : State) (d : Drive) :
    (s.trySpinCheck d).standing = s.standing := by
  unfold State.trySpinCheck; split <;> simp
@[simp] theorem State.seekForReloc_standing (s : State) (d : Drive) (t : Track) :
    (s.seekForReloc d t).standing = s.standing := by
  unfold State.seekForReloc; dsimp only; split <;> simp
@[simp] theorem State.beginCommit_standing (s : State) :
    (s.beginCommit).standing = s.standing := by
  unfold State.beginCommit
  repeat' split
  all_goals simp
@[simp] theorem State.resumeRead_standing (s : State) :
    (s.resumeRead).standing = s.standing := by
  unfold State.resumeRead
  repeat' split
  all_goals simp
@[simp] theorem State.beginEnding_standing (s : State) (p : Path) :
    (s.beginEnding p).standing = s.standing := by
  unfold State.beginEnding; split <;> simp
@[simp] theorem State.beginNotice_standing (s : State) (p : Path) :
    (s.beginNotice p).standing = s.standing := by
  unfold State.beginNotice; split <;> simp
@[simp] theorem State.portFrame_standing (s : State) (p : Path) :
    (s.portFrame p).standing = s.standing := by
  unfold State.portFrame
  repeat' split
  all_goals simp
@[simp] theorem State.grantHost_standing (s : State) (d : Drive) (p : Path) (t : Tag) :
    (s.grantHost d p t).standing = s.standing := by
  unfold State.grantHost; split <;> simp
@[simp] theorem State.issueStep_standing (s : State) (d : Drive) (l : List LadderStep) (n : Nat) (write : Bool) :
    (s.issueStep d l n write).standing = s.standing := by
  unfold State.issueStep; split <;> simp
@[simp] theorem State.grantPass_standing (s : State) (w : Work) :
    (s.grantPass w).standing = s.standing := rfl
@[simp] theorem State.beginRevolution_standing (s : State) (d : Drive) :
    (s.beginRevolution d).standing = s.standing := by
  unfold State.beginRevolution; dsimp only
  repeat' split
  all_goals simp
@[simp] theorem State.passGranted_standing (s : State) (w : Work) :
    (s.passGranted w).standing = s.standing := by
  unfold State.passGranted; dsimp only
  repeat' split
  all_goals simp
@[simp] theorem State.grantBest_standing (s : State) :
    (s.grantBest).standing = s.standing := by
  unfold State.grantBest
  repeat' split
  all_goals simp
@[simp] theorem State.portsFirst_standing (s : State) (n : Nat) :
    (s.portsFirst n).standing = s.standing := by
  induction n generalizing s with
  | zero => rfl
  | succ n ih =>
    unfold State.portsFirst; split
    · split
      · dsimp only; split
        · rw [ih]; simp
        · simp
      · rfl
    · rfl
@[simp] theorem State.grant_standing (s : State) :
    (s.grant).standing = s.standing := by
  unfold State.grant; split <;> simp
@[simp] theorem State.settle_standing (s : State) :
    (s.settle).standing = s.standing := by
  simp [State.settle]
@[simp] theorem State.askBlocks_standing (s : State) (d : Drive) (r : Request) :
    (s.askBlocks d r).standing = s.standing := by
  unfold State.askBlocks; dsimp only
  repeat' split
  all_goals simp
@[simp] theorem State.updReloc_standing (s : State) (f : Reloc → Reloc) :
    (s.updReloc f).standing = s.standing := rfl
@[simp] theorem State.keepReread_standing (s : State) :
    (s.keepReread).standing = s.standing := rfl
@[simp] theorem State.markMismatch_standing (s : State) (d : Drive) :
    (s.markMismatch d).standing = s.standing := by
  unfold State.markMismatch; split <;> simp
@[simp] theorem State.reseekFailed_standing (s : State) (d : Drive) :
    (s.reseekFailed d).standing = s.standing := by
  unfold State.reseekFailed; dsimp only
  repeat' split
  all_goals simp
theorem State.checkedMark_standing (s : State) (d : Drive) (e : Expect) (ph : Addr) (m : Mark) (k : State → State)
    (h : ∀ s, (k s).standing = s.standing) : (s.checkedMark d e ph m k).standing = s.standing := by
  unfold State.checkedMark
  repeat' split
  all_goals simp [h]
@[simp] theorem State.takeHand_standing (s : State) (d : Drive) (ph : Addr) (op : HandOp) (met : Bool) :
    (s.takeHand d ph op met).standing = s.standing := rfl
@[simp] theorem State.lookahead_standing (s : State) (d : Drive) (r : Request) (c : CurBlock) :
    (s.lookahead d r c).standing = s.standing := by
  unfold State.lookahead; split <;> simp
@[simp] theorem State.beginRead_standing (s : State) (d : Drive) (r : Request) (c : CurBlock) (met : Bool) :
    (s.beginRead d r c met).standing = s.standing := by
  simp [State.beginRead]
@[simp] theorem State.beginWrite_standing (s : State) (d : Drive) (r : Request) (c : CurBlock) (bytes : List Byte) (met : Bool) :
    (s.beginWrite d r c bytes met).standing = s.standing := by
  unfold State.beginWrite; split <;> simp
@[simp] theorem State.beginReread_standing (s : State) (d : Drive) (r : Request) (c : CurBlock) (w : BlockWalk) (met : Bool) :
    (s.beginReread d r c w met).standing = s.standing := by
  unfold State.beginReread; dsimp only
  repeat' split
  all_goals simp
@[simp] theorem State.hostSector_standing (s : State) (d : Drive) (r : Request) (c : CurBlock) (m : Mark) :
    (s.hostSector d r c m).standing = s.standing := by
  unfold State.hostSector; dsimp only
  repeat' split
  · simp
  · simp
  · refine State.checkedMark_standing s d _ _ _ _ fun s => ?_
    repeat' split
    all_goals simp
@[simp] theorem State.countSector_standing (s : State) :
    (s.countSector).standing = s.standing := rfl
@[simp] theorem State.passRead_standing (s : State) (d : Drive) (ph : Addr) (verify : Bool) (m : Mark) :
    (s.passRead d ph verify m).standing = s.standing := by
  unfold State.passRead
  exact State.checkedMark_standing s d _ _ _ _ fun s => by simp
@[simp] theorem State.relocSector_standing (s : State) (d : Drive) (r : Reloc) (sec : Nat) (m : Mark) :
    (s.relocSector d r sec m).standing = s.standing := by
  unfold State.relocSector; dsimp only
  repeat' split
  all_goals first | (simp; done) | exact State.checkedMark_standing s d _ _ _ _ fun s => by simp
@[simp] theorem State.scanSector_standing (s : State) (d : Drive) (sec : Nat) (m : Mark) :
    (s.scanSector d sec m).standing = s.standing := by
  unfold State.scanSector; split <;> simp
@[simp] theorem State.continueLater_standing (s : State) (d : Drive) (p : Path) (t : Tag) :
    (s.continueLater d p t).standing = s.standing := by
  simp [State.continueLater]
@[simp] theorem State.ousted_standing (s : State) (d : Drive) (r : Request) :
    (s.ousted d r).standing = s.standing := by
  simp [State.ousted]
@[simp] theorem State.takeReservation_standing (s : State) (d : Drive) (g : Nat) :
    (s.takeReservation d g).standing = s.standing := by
  unfold State.takeReservation
  exact State.standing_of_foldl _ _ (fun _ _ => by simp) _
@[simp] theorem State.finishTransfer_standing (s : State) (d : Drive) (p : Path) (t : Tag) :
    (s.finishTransfer d p t).standing = s.standing := by
  unfold State.finishTransfer; dsimp only
  repeat' split
  all_goals simp
@[simp] theorem State.failTransfer_standing (s : State) (d : Drive) (p : Path) (t : Tag) (code : Code) (b : Concerned) :
    (s.failTransfer d p t code b).standing = s.standing := by
  unfold State.failTransfer; split <;> simp
@[simp] theorem State.drained_standing (s : State) (d : Drive) (p : Path) (t : Tag) :
    (s.drained d p t).standing = s.standing := by
  unfold State.drained
  repeat' split
  all_goals simp
@[simp] theorem State.startDrain_standing (s : State) (d : Drive) (p : Path) (t : Tag) (goal : Drain) :
    (s.startDrain d p t goal).standing = s.standing := by
  simp [State.startDrain]
@[simp] theorem State.afterBlock_standing (s : State) (d : Drive) (r : Request) (c : CurBlock) :
    (s.afterBlock d r c).standing = s.standing := by
  unfold State.afterBlock; dsimp only
  repeat' split
  all_goals simp
@[simp] theorem State.overlay_standing (s : State) (r : Request) (c : CurBlock) (old : List Byte) :
    (s.overlay r c old).standing = s.standing := rfl
@[simp] theorem State.blockDone_standing (s : State) (d : Drive) (p : Path) (t : Tag) :
    (s.blockDone d p t).standing = s.standing := rfl
@[simp] theorem State.fitBlock_standing (s : State) (d : Drive) (r : Request) (c : CurBlock) (bytes : List Byte) :
    (s.fitBlock d r c bytes).standing = s.standing := by
  unfold State.fitBlock; split <;> simp
@[simp] theorem State.lostBlock_standing (s : State) (d : Drive) (r : Request) (c : CurBlock) (damaged : Bool) :
    (s.lostBlock d r c damaged).standing = s.standing := by
  unfold State.lostBlock; dsimp only; split <;> simp
@[simp] theorem State.startWalk_standing (s : State) (d : Drive) (r : Request) (c : CurBlock) (k : WalkKind) :
    (s.startWalk d r c k).standing = s.standing := by
  simp [State.startWalk]
@[simp] theorem State.rereadFailed_standing (s : State) (d : Drive) (r : Request) (c : CurBlock) (w : BlockWalk) :
    (s.rereadFailed d r c w).standing = s.standing := by
  unfold State.rereadFailed
  repeat' split
  all_goals simp
@[simp] theorem State.recovered_standing (s : State) (d : Drive) (r : Request) (c : CurBlock) (burst : Nat) :
    (s.recovered d r c burst).standing = s.standing := by
  simp [State.recovered]
@[simp] theorem State.firstReadEnd_standing (s : State) (d : Drive) (r : Request) (c : CurBlock) (met : Bool) (y : Yield) :
    (s.firstReadEnd d r c met y).standing = s.standing := by
  unfold State.firstReadEnd; dsimp only; split <;> simp
@[simp] theorem State.rereadEnd_standing (s : State) (d : Drive) (r : Request) (c : CurBlock) (met : Bool) (y : Yield) :
    (s.rereadEnd d r c met y).standing = s.standing := by
  unfold State.rereadEnd; dsimp only
  repeat' split
  all_goals simp
@[simp] theorem State.wroteBlock_standing (s : State) (d : Drive) (ph : Addr) (logical : Track) (bytes : List Byte) :
    (s.wroteBlock d ph logical bytes).standing = s.standing := by
  simp [State.wroteBlock]
@[simp] theorem State.writeEnd_standing (s : State) (d : Drive) (r : Request) (c : CurBlock) (logical : Track) (bytes : List Byte) :
    (s.writeEnd d r c logical bytes).standing = s.standing := by
  unfold State.writeEnd; dsimp only; split <;> simp
@[simp] theorem State.markFailEnd_standing (s : State) (d : Drive) (r : Request) (c : CurBlock) :
    (s.markFailEnd d r c).standing = s.standing := by
  unfold State.markFailEnd; split <;> simp
@[simp] theorem State.passReadEnd_standing (s : State) (d : Drive) (h : Hand) (y : Yield) :
    (s.passReadEnd d h y).standing = s.standing := by
  unfold State.passReadEnd; split <;> simp
@[simp] theorem State.passWriteEnd_standing (s : State) (out : WriteOut) :
    (s.passWriteEnd out).standing = s.standing := by
  unfold State.passWriteEnd; dsimp only; split <;> simp
@[simp] theorem State.checkEnd_standing (s : State) :
    (s.checkEnd).standing = s.standing := rfl
@[simp] theorem State.stopEnd_standing (s : State) (h : Hand) :
    (s.stopEnd h).standing = s.standing := by
  unfold State.stopEnd; dsimp only
  repeat' split
  all_goals simp
@[simp] theorem State.endSector_standing (s : State) (h : Hand) (y : Yield) :
    (s.endSector h y).standing = s.standing := by
  unfold State.endSector; dsimp only
  repeat' split
  all_goals simp
@[simp] theorem State.closeGate_standing (s : State) (d : Drive) (high : Bool) :
    (s.closeGate d high).standing = s.standing := by
  unfold State.closeGate; dsimp only
  repeat' split
  all_goals simp
@[simp] theorem State.voidPass_standing (s : State) (d : Drive) (w : Work) :
    (s.voidPass d w).standing = s.standing := by
  unfold State.voidPass; split <;> simp
@[simp] theorem State.withdrawRecall_standing (s : State) (d : Drive) (r : Request) :
    (s.withdrawRecall d r).standing = s.standing := by
  unfold State.withdrawRecall; split <;> simp
@[simp] theorem State.indexMissed_standing (s : State) (d : Drive) :
    (s.indexMissed d).standing = s.standing := by
  unfold State.indexMissed
  repeat' split
  all_goals simp
@[simp] theorem State.indexPulse_standing (s : State) (d : Drive) :
    (s.indexPulse d).standing = s.standing := by
  unfold State.indexPulse; dsimp only
  repeat' split
  all_goals simp
@[simp] theorem State.orientPulse_standing (s : State) (d : Drive) (c : Nat) :
    (s.orientPulse d c).standing = s.standing := by
  unfold State.orientPulse
  repeat' split
  all_goals simp
@[simp] theorem State.transferPulse_standing (s : State) (d : Drive) (c : Nat) (mark : Mark) :
    (s.transferPulse d c mark).standing = s.standing := by
  unfold State.transferPulse
  repeat' split
  all_goals simp
@[simp] theorem State.sectorPulse_standing (s : State) (d : Drive) (mark : Mark) :
    (s.sectorPulse d mark).standing = s.standing := by
  unfold State.sectorPulse; dsimp only
  repeat' split
  all_goals simp
@[simp] theorem State.seekArrived_standing (s : State) (d : Drive) :
    (s.seekArrived d).standing = s.standing := by
  unfold State.seekArrived; dsimp only
  repeat' split
  all_goals simp
@[simp] theorem State.endServing_standing (s : State) (d : Drive) :
    (s.endServing d).standing = s.standing := by
  unfold State.endServing; split <;> simp
@[simp] theorem State.recalArrived_standing (s : State) (d : Drive) :
    (s.recalArrived d).standing = s.standing := by
  unfold State.recalArrived; split <;> simp
@[simp] theorem State.arrive_standing (s : State) (d : Drive) (cyl : Nat) :
    (s.arrive d cyl).standing = s.standing := rfl
@[simp] theorem State.tickAll_standing (s : State) :
    (s.tickAll).standing = s.standing := rfl
@[simp] theorem State.limitSeek_standing (s : State) (d : Drive) :
    (s.limitSeek d).standing = s.standing := by
  unfold State.limitSeek; split <;> simp
@[simp] theorem State.sectorPeriod_standing (s : State) :
    (s.sectorPeriod).standing = s.standing := by
  unfold State.sectorPeriod; dsimp only; split
  · rw [State.settle_standing, State.standing_of_foldl _ _ (fun _ _ => by simp)]; simp
  · simp
@[simp] theorem State.serveRelease_standing (s : State) (d : Drive) (r : Request) :
    (s.serveRelease d r).standing = s.standing := by
  unfold State.serveRelease; dsimp only
  repeat' split
  all_goals simp
@[simp] theorem State.servePosition_standing (s : State) (d : Drive) (r : Request) :
    (s.servePosition d r).standing = s.standing := by
  unfold State.servePosition; dsimp only; split <;> simp
@[simp] theorem State.startService_standing (s : State) (d : Drive) (r : Request) :
    (s.startService d r).standing = s.standing := by
  unfold State.startService
  repeat' split
  all_goals simp
@[simp] theorem State.select_standing (s : State) (d : Drive) :
    (s.select d).standing = s.standing := by
  unfold State.select; split <;> simp
@[simp] theorem State.answer_standing (s : State) (p : Path) (f : List Byte) (code : Code) :
    (s.answer p f code).standing = s.standing := rfl
@[simp] theorem State.refuse_standing (s : State) (p : Path) (f : List Byte) (code : Code) :
    (s.refuse p f code).standing = s.standing := rfl
@[simp] theorem State.markRefused_standing (s : State) (p : Path) (d : Drive) (c : Code) :
    (s.markRefused p d c).standing = s.standing := by
  unfold State.markRefused; split <;> simp
@[simp] theorem State.abandonScan_standing (s : State) (d : Drive) :
    (s.abandonScan d).standing = s.standing := by
  unfold State.abandonScan; dsimp only
  repeat' split
  all_goals simp
@[simp] theorem State.enqueue_standing (s : State) (p : Path) (d : Drive) (r : Request) :
    (s.enqueue p d r).standing = s.standing := by
  simp [State.enqueue]
@[simp] theorem State.recalEntered_standing (s : State) (d : Drive) (r : Request) (gone : Bool) :
    (s.recalEntered d r gone).standing = s.standing := by
  unfold State.recalEntered; dsimp only
  repeat' split
  all_goals simp
@[simp] theorem State.takeQueued_standing (s : State) (o : QOrder) (gone : Bool) (p : Path) (f : List Byte) :
    (s.takeQueued o gone p f).standing = s.standing := by
  unfold State.takeQueued; dsimp only
  repeat' split
  all_goals simp
@[simp] theorem State.doAssign_standing (s : State) (p : Path) (f : List Byte) (d : Drive) :
    (s.doAssign p f d).standing = s.standing := by
  unfold State.doAssign; dsimp only
  repeat' split
  all_goals simp
@[simp] theorem State.stopTransfer_standing (s : State) (d : Drive) (r : Request) :
    (s.stopTransfer d r).standing = s.standing := by
  unfold State.stopTransfer; split <;> simp
@[simp] theorem State.giveBack_standing (s : State) (d : Drive) (r : Request) :
    (s.giveBack d r).standing = s.standing := by
  unfold State.giveBack; dsimp only
  repeat' split
  all_goals simp
@[simp] theorem State.dropPathOn_standing (s : State) (p : Path) (d : Drive) :
    (s.dropPathOn p d).standing = s.standing := by
  unfold State.dropPathOn; dsimp only
  repeat' split
  all_goals simp
@[simp] theorem State.abandonTag_standing (s : State) (p : Path) (t : Tag) :
    (s.abandonTag p t).standing = s.standing := by
  unfold State.abandonTag
  exact State.standing_of_foldl _ _ (fun _ _ => by split <;> simp) _
@[simp] theorem State.abandonAll_standing (s : State) :
    (s.abandonAll).standing = s.standing := by
  unfold State.abandonAll
  exact State.standing_of_foldl _ _ (fun _ _ => State.standing_of_foldl _ _ (fun _ _ => by simp) _) _
@[simp] theorem State.resetDrive_standing (s : State) (writing : Bool) (d : Drive) :
    (s.resetDrive writing d).standing = s.standing := by
  unfold State.resetDrive; dsimp only
  repeat' split
  all_goals simp
@[simp] theorem State.resetEngine_standing (s : State) (e : Engine) (g : Option Gate) :
    (s.resetEngine e g).standing = s.standing := by
  unfold State.resetEngine
  repeat' split
  all_goals simp
@[simp] theorem State.directorReset_standing (s : State) :
    (s.directorReset).standing = s.standing := by
  unfold State.directorReset; dsimp only
  rw [State.standing_of_foldl _ _ (fun _ _ => by simp), State.standing_of_foldl _ _ (fun _ _ => by simp)]
  simp
@[simp] theorem State.doFetch_standing (s : State) (p : Path) (f : List Byte) :
    (s.doFetch p f).standing = s.standing := by
  unfold State.doFetch; dsimp only; split <;> simp
@[simp] theorem State.monitorLoaded_standing (s : State) (d : Drive) (present : Bool) :
    (s.monitorLoaded d present).standing = s.standing := by
  unfold State.monitorLoaded; dsimp only
  repeat' split
  all_goals simp
@[simp] theorem State.listsLoaded_standing (s : State) (d : Drive) (o g : Geometry) :
    (s.listsLoaded d o g).standing = s.standing := by
  unfold State.listsLoaded
  repeat' split
  all_goals simp
@[simp] theorem State.pointerLoaded_standing (s : State) (d : Drive) (g : Geometry) :
    (s.pointerLoaded d g).standing = s.standing := by
  unfold State.pointerLoaded; dsimp only; split <;> simp
@[simp] theorem State.watchReloaded_standing (s : State) (d : Drive) :
    (s.watchReloaded d).standing = s.standing := rfl
@[simp] theorem State.takeSpareMap_standing (s : State) (d : Drive) (rs : List MapRec) :
    (s.takeSpareMap d rs).standing = s.standing := by
  simp [State.takeSpareMap]
@[simp] theorem State.endByExtent_standing (s : State) (d : Drive) (r : Request) (code : Code) :
    (s.endByExtent d r code).standing = s.standing := by
  unfold State.endByExtent; dsimp only
  repeat' split
  all_goals simp
@[simp] theorem State.retestTag_standing (s : State) (p : Path) (t : Tag) :
    (s.retestTag p t).standing = s.standing := by
  unfold State.retestTag
  exact State.standing_of_foldl _ _ (fun _ _ => by (repeat' split) <;> simp) _
@[simp] theorem State.retestAll_standing (s : State) :
    (s.retestAll).standing = s.standing := by
  unfold State.retestAll
  exact State.standing_of_foldl _ _ (fun _ _ => State.standing_of_foldl _ _ (fun _ _ => by simp) _) _
@[simp] theorem State.candidateMisses_standing (s : State) (w : Work) :
    (s.candidateMisses w).standing = s.standing := by
  simp [State.candidateMisses]
@[simp] theorem State.beginOrder_standing (s : State) (p : Path) (frame : List Byte) :
    (s.beginOrder p frame).standing = s.standing := by
  unfold State.beginOrder
  rw [State.standing_of_foldl _ _ (fun _ _ => by simp)]
  simp
@[simp] theorem State.connect_standing (s : State) (d : Drive) (p : Path) (t : Tag) :
    (s.connect d p t).standing = s.standing := by
  unfold State.connect; dsimp only; split <;> simp
@[simp] theorem State.stageData_standing (s : State) (d : Drive) (r : Request) (data : List Byte) :
    (s.stageData d r data).standing = s.standing := by
  unfold State.stageData
  repeat' split
  all_goals simp
@[simp] theorem State.endingGone_standing (s : State) (p : Path) (e : Ending) :
    (s.endingGone p e).standing = s.standing := by
  unfold State.endingGone; dsimp only
  repeat' split
  all_goals simp
@[simp] theorem State.frameGone_standing (s : State) (p : Path) (f : Frame) :
    (s.frameGone p f).standing = s.standing := by
  unfold State.frameGone; split <;> simp
@[simp] theorem State.blockTaken_standing (s : State) (d : Drive) (r : Request) :
    (s.blockTaken d r).standing = s.standing := by
  unfold State.blockTaken
  repeat' split
  all_goals simp
@[simp] theorem State.outGone_standing (s : State) (p : Path) (portFirst : Bool) :
    (s.outGone p portFirst).standing = s.standing := by
  unfold State.outGone; dsimp only
  repeat' split
  all_goals simp
@[simp] theorem State.spareFailed_standing (s : State) (d : Drive) (home : Track) (cause : SpareCause) :
    (s.spareFailed d home cause).standing = s.standing := by
  simp [State.spareFailed]
@[simp] theorem State.startOver_standing (s : State) (e : RelocEntry) (t : Track) :
    (s.startOver e t).standing = s.standing := by
  simp [State.startOver]
@[simp] theorem State.dequeue_standing (s : State) (e : RelocEntry) :
    (s.dequeue e).standing = s.standing := rfl
@[simp] theorem State.takeResults_standing (s : State) :
    (s.takeResults).standing = s.standing := rfl
@[simp] theorem State.offerAgain_standing (s : State) (d : Drive) :
    (s.offerAgain d).standing = s.standing := by
  simp [State.offerAgain]
@[simp] theorem State.passOver_standing (s : State) (d : Drive) :
    (s.passOver d).standing = s.standing := by
  simp [State.passOver]
@[simp] theorem State.readComplete_standing (s : State) (r : Reloc) :
    (s.readComplete r).standing = s.standing := by
  simp [State.readComplete]
@[simp] theorem State.startTrackWalk_standing (s : State) (r : Reloc) (failing : List Nat) :
    (s.startTrackWalk r failing).standing = s.standing := by
  simp [State.startTrackWalk]
@[simp] theorem State.readPassEnd_standing (s : State) (r : Reloc) :
    (s.readPassEnd r).standing = s.standing := by
  unfold State.readPassEnd; dsimp only; split <;> simp
@[simp] theorem State.trackWalkOver_standing (s : State) (r : Reloc) :
    (s.trackWalkOver r).standing = s.standing := by
  simp [State.trackWalkOver]
@[simp] theorem State.trackWalkEnd_standing (s : State) (r : Reloc) (w : TrackWalk) :
    (s.trackWalkEnd r w).standing = s.standing := by
  unfold State.trackWalkEnd; dsimp only
  repeat' split
  all_goals simp
@[simp] theorem State.poolLowTest_standing (s : State) (d : Drive) :
    (s.poolLowTest d).standing = s.standing := by
  unfold State.poolLowTest; dsimp only; split <;> simp
@[simp] theorem State.forgetTracks_standing (s : State) (d : Drive) (a b : Track) :
    (s.forgetTracks d a b).standing = s.standing := rfl
@[simp] theorem State.commitDone_standing (s : State) (r : Reloc) :
    (s.commitDone r).standing = s.standing := by
  simp [State.commitDone]
@[simp] theorem State.relocFails_standing (s : State) (r : Reloc) :
    (s.relocFails r).standing = s.standing := by
  simp [State.relocFails]
@[simp] theorem State.verifyFailed_standing (s : State) (r : Reloc) :
    (s.verifyFailed r).standing = s.standing := by
  unfold State.verifyFailed; dsimp only; split <;> simp
@[simp] theorem State.startScan_standing (s : State) (d : Drive) :
    (s.startScan d).standing = s.standing := by
  unfold State.startScan; dsimp only; split <;> simp
@[simp] theorem State.tryScan_standing (s : State) (d : Drive) :
    (s.tryScan d).standing = s.standing := by
  unfold State.tryScan; split <;> simp
@[simp] theorem State.scorePass_standing (s : State) (d : Drive) :
    (s.scorePass d).standing = s.standing := by
  unfold State.scorePass; dsimp only; split <;> simp
@[simp] theorem State.advancePointer_standing (s : State) (d : Drive) :
    (s.advancePointer d).standing = s.standing := rfl
@[simp] theorem State.completeScan_standing (s : State) (d : Drive) :
    (s.completeScan d).standing = s.standing := by
  simp [State.completeScan]

end Sys2Proof.Machine
end

