-- ==== Sys2Proof/Tests/Slice0.lean ====
section
/-! SUPPORT. Tests of single commands against the manual's worked cases, refusals of ill-formed commands, and a witness for every statement with hypotheses. -/

namespace Sys2Proof.Tests

set_option Elab.async false

open Sys2Proof.Machine

/-! ## Ill-formed commands are refused -/

/-- An order frame of another type (R170). -/
theorem test_wf_refuses_order_frame_type :
    (Instr.orderFrameBegin .a [0x02, 0]).wf = false ∧ (Instr.stalled (.orderFrame .a [])).wf = false := by decide

/-- An ACCEPT of another type (R170). -/
theorem test_wf_refuses_accept_type : (Instr.accept .a [0x01, 0]).wf = false := by decide

/-- A data frame longer than a block (R170). -/
theorem test_wf_refuses_long_data : (Instr.dataFrame .a (List.replicate 513 0) true).wf = false := by
  decide +kernel

/-- A yield whose data is no whole block, a burst of no bits, of more than 9, or past the block's end, and an
uncorrectable length of 1–9 (R29, R92). -/
theorem test_wf_refuses_yield :
    (Instr.sectorEnd 0 ⟨[0], .clean⟩).wf = false ∧
    (Instr.sectorEnd 0 ⟨List.replicate 512 0, .burst 0 0⟩).wf = false ∧
    (Instr.sectorEnd 0 ⟨List.replicate 512 0, .burst 0 10⟩).wf = false ∧
    (Instr.sectorEnd 0 ⟨List.replicate 512 0, .burst 4090 9⟩).wf = false ∧
    (Instr.sectorEnd 0 ⟨List.replicate 512 0, .uncorrectable 9⟩).wf = false := by
  decide +kernel

/-- A decoder's turn that names no port, or one twice (R162). -/
theorem test_wf_refuses_turn :
    (∀ l ∈ [[], [Path.a, .a]], ∀ c ∈ [Instr.read l, .write l, .verify l, .position l, .reserve l, .release l,
      .recalibrate l false, .setGroup l, .setNotices l, .clearNotices l, .reportCondition l, .fetchGeometry l,
      .fetchProfile l, .fetchSpareMap l, .fetchExtents l, .fetchLadder l, .fetchPolicy l, .fetchWatch l,
      .fetchDriveStatus l, .loadTable l, .assignAlternate l, .forceRelease l, .directorReset l,
      .unknownOrderCode l], c.wf = false) := by decide

/-! ## Small states -/

/-- C = 200, H = 4, S = 4: drive 3 of the manual's worked cases. -/
def geo : Geometry := ⟨true, 200, 4, 4, 0, false, false⟩

/-- Drive 3 present with that geometry, in this monitor state, at cylinder 13. -/
def withDrive (st : DriveState) : State :=
  (State.reset.setGeom 3 geo).setMon 3 { Monitor.initial with state := st, cylinder := 13 }

/-- A monitor change on drive 3. -/
def onMon (s : State) (f : Monitor → Monitor) : State := s.setMon 3 (f (s.monOf 3))

/-- A request of path A, tag 1, for three blocks from (13, 0, 5), with these last-block bytes. -/
def request (o : QOrder) (last : Nat) : Request :=
  ⟨.a, 1, o, ⟨13, 0, 5⟩, 3, last, false, false, 0, 0, false, false, 0, .none, true⟩

/-- Its block number: (13×4+0)×32+5. -/
def block5 : Nat := 1669

/-- Drive 3 with this one request in service. -/
def serving (st : DriveState) (r : Request) : State := (withDrive st).setQueue 3 [r]

/-- The path's slot and link for that request. -/
def linked (s : State) (l : Link) : State :=
  s.setPort .a { s.port .a with link := l, tags := (s.port .a).tags.set 1 .outstanding }

/-- The engine held by that request, at its first block, in this phase. -/
def held (ph : Phase) : Engine :=
  { Engine.freeWith [] with
    holder := some (.host 3 .a 1), phase := ph, current := some ⟨block5, ⟨13, 0, 5⟩⟩ }

/-- The request connected on path A, the sector before its block in progress. -/
def connected (r : Request) (f : Engine → Engine) : State :=
  linked (onMon ((serving .transferring r).setEngine (f (held .running))) fun m => { m with sector := 4 }) .connected

/-- A block of one byte value. -/
def blockOfByte (b : Byte) : List Byte := List.replicate 512 b

/-- A home-range mark of drive 3's track (13, 0). -/
def mark5 : Mark := ⟨13, 0, 5, false⟩

/-- An order frame: code, tag byte, drive byte, then the twelve bytes that follow. -/
def frame (code b2 drive : Byte) (rest : List Byte) : List Byte :=
  (0x01 :: code :: b2 :: drive :: rest ++ List.replicate 16 0).take 16

/-- The port of a path holds this frame, received. -/
def holding (s : State) (p : Path) (f : List Byte) : State :=
  s.setPort p { s.port p with link := .receiving, rx := some f }

/-- What holds of the next state that a command answers. -/
def nextIs (c : Instr) (s : State) (f : State → Bool) : Bool :=
  match exec c s with
  | .next t => f t
  | _ => false

/-! ## Tests of single commands -/

/-- Power-on reset gives every path its mask, and keeps a line of a drive (R159; log entry 7). -/
theorem test_power_on :
    nextIs .powerOnReset (onMon (withDrive .ready) fun m => { m with cylinder := 90 }) (fun t =>
      (t.monOf 3).state == .absent && (t.port .s).mask == 0xFF && (t.port .b).mask == 0x0F &&
        t.policy == ⟨24, 2, 2, 15, 4, 30, 2⟩) = true := by decide +kernel

/-- An online rise starts the spin check of an OFFLINE drive (R6). -/
theorem test_online_rise :
    nextIs (.onlineRise 3) (withDrive .offline) (fun t => (t.monOf 3).state == .spinCheck) = true := by decide +kernel

/-- An online fall ends the request in service DRIVE LOST, naming its next block (R21, Table 5-5). -/
theorem test_online_fall :
    nextIs (.onlineFall 3) (linked (serving .orienting (request .read 512)) .free) (fun t =>
      (t.monOf 3).state == .offline && (t.port .a).endings ==
        [⟨some 1, .driveLost, false, false, some 3, 0, some ⟨some ⟨13, 0, 5⟩, ⟨13, 0, 5⟩, false⟩, none⟩]) = true := by
  decide +kernel

/-- A pulse in progress counts in the gate that opens (R7). -/
theorem test_gate_open :
    nextIs (.gateOpen 3 true) (withDrive .spinCheck) (fun t => (t.monOf 3).gatePulses == 1) = true := by decide +kernel

/-- A drive in an open gate with these tallies. -/
def gated (pulses passes fails : Nat) (last : Bool) : State :=
  onMon (withDrive .spinCheck) fun m =>
    { m with gateOpen := true, gatePulses := pulses, gatePasses := passes, gateFails := fails, lastGatePassed := last }

/-- 188 pulses pass and 187 fail (R8). -/
theorem test_gate_close :
    nextIs (.gateClose 3 false) (gated 188 0 0 true) (fun t => (t.monOf 3).state == .recalibrating) = true ∧
    nextIs (.gateClose 3 false) (gated 187 0 0 true) (fun t =>
      (t.monOf 3).gateFails == 1 && (t.monOf 3).lastGatePassed == false) = true := by decide +kernel

/-- The 30th gate without two passes in a row (R8). -/
theorem test_give_up :
    nextIs (.spinCheckGiveUp 3 false) (gated 197 15 14 true) (fun t =>
      (t.monOf 3).state == .faulted && (t.monOf 3).cause == .speed) = true := by decide +kernel

/-- An index pulse at counter 31 clears the mismatch count (R11). -/
theorem test_index :
    nextIs (.indexPulse 3) (onMon (withDrive .ready) fun m => { m with sector := 31, mismatch := 1 }) (fun t =>
      (t.monOf 3).sector == 0 && (t.monOf 3).mismatch == 0 && (t.scanOf 3).idle == 1) = true := by decide +kernel

/-- A second mismatch is a clock fault (R11). -/
theorem test_clock_fault :
    nextIs (.clockFault 3) (onMon (withDrive .ready) fun m => { m with sector := 30, mismatch := 1 }) (fun t =>
      (t.monOf 3).cause == .clock && (t.monOf 3).mismatch == 2) = true := by decide +kernel

/-- The counter wraps from 31 to 0 without an index, and stays 0 after one (R10). -/
theorem test_sector_pulse :
    nextIs (.sectorPulse 3 mark5) (onMon (withDrive .ready) fun m => { m with sector := 31 }) (fun t =>
      (t.monOf 3).sector == 0) = true ∧
    nextIs (.sectorPulse 3 mark5) (onMon (withDrive .ready) fun m => { m with indexTaken := true }) (fun t =>
      (t.monOf 3).sector == 0 && !(t.monOf 3).indexTaken) = true := by decide +kernel

/-- The recall of sector 5 goes out at the pulse that begins sector 3, with M = 2 (R69, R73). -/
theorem test_recall :
    nextIs (.sectorPulse 3 mark5)
      (onMon (linked (serving .orienting (request .read 512)) .free) fun m => { m with sector := 2 }) (fun t =>
        (t.port .a).out == [.recall 1 0 false] && t.engine.phase == .recalling) = true := by decide +kernel

/-- Seek-complete puts the drive of a READ in ORIENTING (R13). -/
theorem test_seek_complete :
    nextIs (.seekComplete 3)
      (onMon (serving .seeking (request .read 512)) fun m => { m with target := 77 }) (fun t =>
        (t.monOf 3).state == .orienting && (t.monOf 3).cylinder == 77) = true := by decide +kernel

/-- The seek limit ends the request in service SEEK FAULT (R13). -/
theorem test_seek_limit :
    nextIs (.seekLimit 3) (linked (serving .seeking (request .read 512)) .free) (fun t =>
      (t.monOf 3).cause == .seek && (t.port .a).endings.map (·.code) == [.seekFault]) = true := by decide +kernel

/-- A fault line under the write gate is a WRITE fault (R19). -/
theorem test_fault_rise :
    nextIs (.faultRise 3) ((withDrive .transferring).setGate (some ⟨3, .write⟩)) (fun t =>
      (t.monOf 3).cause == .write) = true := by decide +kernel

/-- An order frame takes a FREE link (R160). -/
theorem test_order_frame :
    nextIs (.orderFrameBegin .b (frame 0x13 0 0 [])) State.reset (fun t => (t.port .b).link == .receiving) = true := by
  decide +kernel

/-- A READ of (13, 0, 5), 3 blocks, on tag 1, in the byte layout of Table 9-8. -/
def readFrame : List Byte := frame 0x01 0x01 3 [0, 13, 0, 5, 0, 3, 2, 0]

/-- The request that a READ frame makes; the frames of WRITE, VERIFY and POSITION differ in their code (R46). -/
theorem test_read_write_verify_position :
    (∀ x ∈ [(0x01, Instr.read [.a], QOrder.read), (0x02, .write [.a], .write), (0x03, .verify [.a], .verify),
        (0x04, .position [.a], .position)],
      nextIs x.2.1 (holding (withDrive .ready) .a (frame x.1 0x01 3 [0, 13, 0, 5, 0, 3, 2, 0])) (fun t =>
        (t.queue 3).map (·.order) == [x.2.2] && (t.port .a).out == [.hold 1] &&
          (t.port .a).tags.get 1 == .outstanding) = true) := by decide +kernel

/-- A READ's last-block bytes are 512, its address as named (Table 9-8, R170). -/
theorem test_read_fields :
    nextIs (.read [.a]) (holding (withDrive .ready) .a readFrame) (fun t =>
      t.queue 3 == [{ request .read 512 with inService := false }]) = true := by decide +kernel

/-- RESERVE without a group is NO GROUP; RELEASE and RECALIBRATE enter the queue (R150, R163). -/
theorem test_reserve_release_recalibrate :
    nextIs (.reserve [.a]) (holding (withDrive .ready) .a (frame 0x05 0 3 [])) (fun t =>
      (t.port .a).out == [.ending ⟨some 0, .noGroup, true, false, some 3, 0, none, none⟩]) = true ∧
    nextIs (.release [.a]) (holding (withDrive .ready) .a (frame 0x06 0 3 [])) (fun t =>
      (t.queue 3).map (·.order) == [.release]) = true ∧
    nextIs (.recalibrate [.a] true) (holding (withDrive .faulted) .a (frame 0x07 0 3 [])) (fun t =>
      (t.monOf 3).state == .recalibrating) = true := by decide +kernel

/-- SET GROUP 3 on path A (R144). -/
theorem test_set_group :
    nextIs (.setGroup [.a]) (holding State.reset .a (frame 0x10 0 0 [0, 0, 0, 0, 0, 0, 0, 0, 3])) (fun t =>
      t.group .a == 3 && (t.port .a).out == [.ending ⟨none, .normal, false, false, none, 0, none, none⟩]) = true := by
  decide +kernel

/-- SET NOTICES of kinds 1–5; CLEAR NOTICES of kind 5 on drive 3 (R166). -/
theorem test_notice_orders :
    nextIs (.setNotices [.b]) (holding State.reset .b (frame 0x11 0 0 [0, 0, 0, 0, 0, 0, 0, 0, 0x1F])) (fun t =>
      (t.port .b).mask == 0x1F) = true ∧
    nextIs (.clearNotices [.b])
      (holding (State.reset.raiseAll ⟨.spared, 3, .none⟩) .b (frame 0x12 0 0 [0, 0, 0, 0, 0, 0, 0, 0, 0x10, 0x08]))
      (fun t => (t.port .b).raw == [] && (t.port .a).raw == [⟨.spared, 3, .none⟩]) = true := by decide +kernel

/-- REPORT CONDITION of an EMPTY record: 20 zero bytes, then NORMAL (R109, Table 9-11). -/
theorem test_report_condition :
    nextIs (.reportCondition [.c]) (holding State.reset .c (frame 0x13 0 0 [])) (fun t =>
      (t.port .c).out.map Frame.bytes == [0x03 :: List.replicate 20 0,
        [0x83, 0xFF, 0, 0, 0xFF, 0, 0, 0, 0, 0, 0, 0xFF]]) = true := by decide +kernel

/-- A fetch of one entry of a table, from entry `first`. -/
def fetchFrame (table first : Byte) : List Byte := frame 0x14 0 0 [0, 0, 0, 0, 0, 0, 0, 0, table, first, 0, 1]

/-- The first data frame that a fetch command sends on path A. -/
def fetched (c : Instr) (s : State) (table first : Byte) (bytes : List Byte) : Bool :=
  nextIs c (holding s .a (fetchFrame table first)) fun t => (t.port .a).out.head? == some (.data bytes)

/-- The power-on GEOMETRY, PROFILE 1, SPARE MAP, EXTENTS and LADDER entries as bytes (Table 10-4). -/
theorem test_fetch_first_tables :
    fetched (.fetchGeometry [.a]) State.reset 1 0 [0, 0, 64, 1, 2, 0, 0, 0] = true ∧
    fetched (.fetchProfile [.a]) State.reset 2 1 (List.replicate 25 0) = true ∧
    fetched (.fetchSpareMap [.a]) State.reset 3 0 [0] = true ∧
    fetched (.fetchExtents [.a]) State.reset 4 15 [0, 0, 0, 0, 0, 0, 0, 0] = true ∧
    fetched (.fetchLadder [.a]) State.reset 5 1 [0, 0, 2] = true := by decide +kernel

/-- The power-on POLICY entry, an unused WATCH place and an ABSENT drive's status (Tables 10-2, 10-4). -/
theorem test_fetch_last_tables :
    fetched (.fetchPolicy [.a]) State.reset 6 0 [24, 2, 2, 15, 4, 30, 2, 0] = true ∧
    fetched (.fetchWatch [.a]) State.reset 7 0 [0, 0, 0, 0, 0, 0, 0, 0] = true ∧
    fetched (.fetchDriveStatus [.a]) State.reset 8 0 [0, 0, 0, 0, 0, 0, 0, 0, 0, 0, 0, 0, 0] = true := by
  decide +kernel

/-- RESET PATH frees the link and answers NORMAL (R168). -/
theorem test_reset_path :
    nextIs (.resetPath .a) (linked (serving .orienting (request .read 512)) .connected) (fun t =>
      t.queue 3 == [] && (t.monOf 3).state == .ready && (t.port .a).tags.get 1 == .free) = true := by decide +kernel

/-- LOAD TABLE on S takes the order to the table store; on A it is NOT PERMITTED (R163, R173). -/
theorem test_load_table :
    nextIs (.loadTable [.s]) (holding State.reset .s (frame 0x16 0 0 [0, 0, 0, 0, 0, 0, 0, 0, 6, 0, 0, 1])) (fun t =>
      t.load == some ⟨6, 0, 1, []⟩ && (t.port .s).link == .receiving) = true ∧
    nextIs (.loadTable [.a]) (holding State.reset .a (frame 0x16 0 0 [0, 0, 0, 0, 0, 0, 0, 0, 6, 0, 0, 1])) (fun t =>
      (t.port .a).out == [.ending ⟨none, .notPermitted, true, false, none, 0, none, none⟩]) = true := by decide +kernel

/-- ASSIGN ALTERNATE queues a host-range home; (196, 0) is OUTSIDE VOLUME with C−S = 196 (R117). -/
theorem test_assign_alternate :
    nextIs (.assignAlternate [.s]) (holding (withDrive .seeking) .s (frame 0x17 0 3 [0, 195, 3])) (fun t =>
      t.relocQ == [⟨3, ⟨195, 3⟩, .order⟩]) = true ∧
    nextIs (.assignAlternate [.s]) (holding (withDrive .seeking) .s (frame 0x17 0 3 [0, 196, 0])) (fun t =>
      t.relocQ == [] && (t.port .s).out ==
        [.ending ⟨none, .outsideVolume, true, false, some 3, 0, none, none⟩]) = true := by decide +kernel

/-- FORCE RELEASE sends RELEASED to the members of the former group (R152). -/
theorem test_force_release :
    nextIs (.forceRelease [.s])
      (holding ((State.reset.setGroup .b 3).setReserved 2 (some 3)) .s (frame 0x18 0 2 [])) (fun t =>
        t.reservedBy 2 == none && (t.port .b).raw == [⟨.released, 2, .none⟩] && (t.port .a).raw == []) = true := by
  decide +kernel

/-- DIRECTOR RESET ends a request ABANDONED and keeps the seek of its drive (R22, R169). -/
theorem test_director_reset :
    nextIs (.directorReset [.s])
      (holding (linked (serving .seeking (request .read 512)) .free) .s (frame 0x19 0 0 [])) (fun t =>
        t.queue 3 == [] && (t.port .a).endings.map (·.code) == [.abandoned] &&
          (t.monOf 3).state == .seeking) = true := by decide +kernel

/-- ACCEPT connects the recall (R74); a WRITE is asked for two blocks (R81). -/
theorem test_accept :
    nextIs (.accept .a [0x02, 0x01])
      (linked ((serving .orienting (request .write 512)).setEngine (held .recalling)) .sending) (fun t =>
        (t.port .a).link == .connected && t.engine.slot1 == ⟨.filling, 1669, []⟩ &&
          t.engine.slot2 == ⟨.filling, 1670, []⟩) = true := by decide +kernel

/-- A block's bytes, whole, make its slot FULL (R77). -/
theorem test_data_frame :
    nextIs (.dataFrame .a (blockOfByte 7) false)
      (connected (request .write 512) fun e => { e with slot1 := ⟨.filling, 1669, []⟩ }) (fun t =>
        t.engine.slot1.st == .full) = true := by decide +kernel

/-- The path takes a READ's block: it is done, and its slot EMPTY (R77, R78). -/
theorem test_frame_sent :
    nextIs (.frameSent .a false)
      (connected (request .read 512) fun e => { e with slot1 := ⟨.full, 1669, blockOfByte 7⟩ }) (fun t =>
        (t.queue 3).map (·.blocksDone) == [1] && t.engine.slot1.st == .empty) = true := by decide +kernel

/-- An ending before a notice, in order (R161, R167). -/
theorem test_endings_and_notices :
    nextIs (.endingFrameBegin .b) (State.reset.setPort .b { State.reset.port .b with
      endings := [⟨some 2, .normal, false, false, some 3, 1, none, none⟩] }) (fun t =>
        (t.port .b).out == [.ending ⟨some 2, .normal, false, false, some 3, 1, none, none⟩]) = true ∧
    nextIs (.noticeFrameBegin .b)
      (((State.reset.raiseAll ⟨.room, 1, .none⟩).raiseAll ⟨.driveFault, 5, .fault .seek⟩).raiseAll ⟨.spared, 3, .none⟩)
      (fun t => (t.port .b).out == [.notice ⟨.driveFault, 5, .fault .seek⟩] &&
        (t.port .b).raw == [⟨.room, 1, .none⟩, ⟨.spared, 3, .none⟩]) = true := by decide +kernel

/-! ### The selection of section 3.3.1 -/

/-- Drive 4 with profile 1, at cylinder 120, sector 5. -/
def selecting : State :=
  (((State.reset.setGeom 4 ⟨true, 823, 5, 8, 1, false, false⟩).setProfiles
    ⟨[], [⟨1, 4⟩, ⟨8, 6⟩, ⟨32, 9⟩, ⟨96, 13⟩, ⟨256, 18⟩, ⟨607, 24⟩], [], []⟩).setMon 4
      { Monitor.initial with state := .ready, cylinder := 120, sector := 5 }).setQueue 4
    [⟨.d, 0, .read, ⟨118, 4, 12⟩, 40, 512, false, false, 5, 0, false, false, 0, .none, false⟩,
     ⟨.c, 2, .write, ⟨400, 1, 30⟩, 2, 512, false, false, 3, 0, false, false, 0, .none, false⟩,
     ⟨.a, 0, .read, ⟨130, 2, 20⟩, 3, 512, false, false, 0, 0, false, false, 0, .none, false⟩,
     ⟨.b, 1, .verify, ⟨120, 0, 6⟩, 1, 512, false, false, 0, 0, false, false, 0, .none, false⟩]

/-- The four effective costs of the worked case (section 3.3.1). -/
theorem test_costs : (selecting.queue 4).map (selecting.costOf 4) = [29, 51, 15, 33] := by decide +kernel

/-- Ra is selected, the others age to 6, 4 and 1, and the drive seeks to cylinder 130 with head 2. -/
theorem test_selection :
    nextIs (.selection 4) selecting (fun t =>
      (t.queue 4).map (·.age) == [6, 4, 0, 1] && (t.queue 4).map (·.inService) == [false, false, true, false] &&
        (t.monOf 4).target == 130 && (t.monOf 4).head == 2) = true := by decide +kernel

/-- A miss at the stall limit of 15 ends the request STALLED (R76). -/
theorem test_stalled :
    nextIs (.stalled (.pulse 3 mark5))
      (onMon (linked ((serving .orienting { request .read 512 with missCount := 14 }).setEngine
        (held .recalling)) .sending) fun m => { m with sector := 4 }) (fun t =>
        t.queue 3 == [] && (t.monOf 3).state == .ready && (t.port .a).endings.map (·.code) == [.stalled]) = true := by
  decide +kernel

/-- A CLEAN block of a READ goes on to the next sector; a DAMAGED one ends the READ (R78, R99). -/
theorem test_sector_end :
    nextIs (.sectorEnd 3 ⟨blockOfByte 7, .clean⟩)
      (connected (request .read 512) fun e =>
        { e with slot1 := ⟨.filling, 1669, []⟩, hand := some ⟨3, ⟨13, 0, 5⟩, .firstRead, true⟩ }) (fun t =>
        t.engine.current == some ⟨1670, ⟨13, 0, 6⟩⟩ && t.engine.slot1.st == .full) = true ∧
    nextIs (.sectorEnd 3 ⟨blockOfByte 7, .damageTag⟩)
      (connected (request .read 512) fun e =>
        { e with slot1 := ⟨.filling, 1669, []⟩, hand := some ⟨3, ⟨13, 0, 5⟩, .firstRead, true⟩ }) (fun t =>
        t.queue 3 == [] && (t.monOf 3).state == .ready) = true := by decide +kernel

/-! ### Relocation and scan: drive 3 of sections 6.7.1 and 7.7.1 -/

/-- The four records of drive 3 in the first table of section 2.5.1. -/
def map3 : List MapRec :=
  [⟨3, ⟨196, 0⟩, .active ⟨13, 0⟩⟩, ⟨3, ⟨196, 1⟩, .active ⟨13, 1⟩⟩, ⟨3, ⟨196, 2⟩, .withdrawn⟩,
   ⟨3, ⟨196, 3⟩, .active ⟨88, 2⟩⟩]

/-- Drive 3 READY at cylinder 88 with those records, and these relocation queue entries. -/
def beforeStart (q : List RelocEntry) : State :=
  ((onMon (withDrive .ready) fun m => { m with cylinder := 88 }).setMap map3).setRelocQ q

/-- The start of (40, 1): the alternate is (197, 0), and the drive seeks to 40 with head 1 (section 6.7.1). -/
theorem test_relocation_start :
    nextIs .relocationStart (beforeStart [⟨3, ⟨40, 1⟩, .watch⟩]) (fun t =>
      t.reloc == some ⟨3, ⟨40, 1⟩, ⟨40, 1⟩, false, ⟨197, 0⟩, .readPass, .first, .none, true⟩ &&
        (t.monOf 3).target == 40 && (t.monOf 3).head == 1) = true := by decide +kernel

/-- The relocation of (40, 1) over (197, 0) in this stage and revolution. -/
def reloc40 (st : Stage) (rev : CommitRev) : Reloc := ⟨3, ⟨40, 1⟩, ⟨40, 1⟩, false, ⟨197, 0⟩, st, .first, rev, true⟩

/-- Its pass holding the engine at the end of a revolution with these results and this buffer. -/
def passAt (st : Stage) (rev : CommitRev) (results : List PassResult) (blocks : List BufBlock) : State :=
  ((((withDrive .transferring).setMap (insertRec ⟨3, ⟨197, 0⟩, .pending ⟨40, 1⟩⟩ map3)).setReloc
    (some (reloc40 st rev))).setBuffer ⟨true, blocks⟩).setEngine
    { Engine.freeWith [] with holder := some (.reloc 3), phase := .pass, begun := 32, results := results }

/-- The 32 results of a revolution in which these sectors failed. -/
def revolution (failed : List Nat) : List PassResult :=
  (List.range 32).map fun i => ⟨i, if i ∈ failed then .uncorrectable else .clean, [0]⟩

/-- 17 and 22 UNCORRECTABLE: a walk over both, on step 1 with 2 rereads, the first of them granted at once (section
6.7.1, R103). -/
theorem test_read_pass_end :
    nextIs .readPassRevolutionEnd (passAt .readPass .none (revolution [17, 22]) Buffer.free.blocks) (fun t =>
      (t.trackWalk.map fun w => (w.failing, w.step, w.left)) == some ([17, 22], 1, 1)) = true := by decide +kernel

/-- A buffer of GOOD blocks but for sector 22. -/
def buffer22 (st : BufState) : List BufBlock := (List.replicate 32 ⟨.good, [0]⟩).set 22 ⟨st, [0]⟩

/-- 22 fails the last step's last reread: DAMAGED, and the COMMIT begins in the same step (section 6.7.1). -/
theorem test_track_walk_end :
    nextIs .trackWalkRevolutionEnd
      ((passAt .readPass .none [⟨22, .uncorrectable, [0]⟩] (buffer22 .failing)).setTrackWalk
        (some ⟨3, ⟨40, 1⟩, [22], ladder0, 6, 0⟩)) (fun t =>
        blockState t.buffer.blocks 22 == .damaged && (t.reloc.map (·.stage)) == some .commit &&
          (t.monOf 3).target == 197) = true := by decide +kernel

/-- The COMMIT begins when the drive is READY with an empty queue (R125). -/
theorem test_commit_begin :
    nextIs .commitBegin ((withDrive .ready).setReloc (some { reloc40 .held .none with holds := false })) (fun t =>
      (t.reloc.map (·.stage)) == some .commit && (t.monOf 3).target == 197) = true := by decide +kernel

/-- A whole verify: the record ACTIVE, SPARED with 0 damaged blocks, no POOL LOW at 11 FREE (section 6.7.1). -/
theorem test_verify_end :
    nextIs .verifyRevolutionEnd (passAt .commit .verify (revolution []) (buffer22 .good)) (fun t =>
      activeAlternate t.map 3 ⟨40, 1⟩ == some ⟨197, 0⟩ && freeCount t.map geo 3 == 11 && t.reloc == none &&
        (t.port .d).raw == [⟨.spared, 3, .spared ⟨40, 1⟩ ⟨197, 0⟩ 0⟩]) = true := by decide +kernel

/-- Drive 3 with scan enabled, READY at cylinder 13, idle for 30 revolutions, its pointer at (12, 3). -/
def scannable (st : DriveState) : State :=
  ((onMon (withDrive st) fun m => { m with pointer := ⟨12, 3⟩ }).setGeom 3 { geo with scan := true }).setScan 3
    ⟨30, .none, []⟩

/-- The pass starts with the seek to 12, head 3 (section 7.7.2). -/
theorem test_scan_start :
    nextIs (.scanPassStart 3) (scannable .ready) (fun t =>
      (t.scanOf 3).phase == .seeking && (t.monOf 3).target == 12 && (t.monOf 3).head == 3) = true := by decide +kernel

/-- A completed pass of 32 CLEAN: from (12, 3) over the ACTIVE homes (13, 0) and (13, 1) to (13, 2), where the next
pass starts in the same step (sections 7.7.1, 7.7.2). -/
theorem test_scan_complete :
    nextIs (.scanPassComplete 3)
      ((((onMon (scannable .transferring) fun m => { m with cylinder := 12 }).setMap map3).setScan 3
        ⟨31, .pass, List.replicate 32 .clean⟩).setEngine
        { Engine.freeWith [] with holder := some (.scan 3), phase := .pass, begun := 32 }) (fun t =>
        (t.monOf 3).pointer == ⟨13, 2⟩ && (t.scanOf 3).phase == .seeking && (t.scanOf 3).idle == 31) = true := by
  decide +kernel

/-- An unknown order code is BAD ORDER (R163). -/
theorem test_unknown_order :
    nextIs (.unknownOrderCode [.d]) (holding State.reset .d (frame 0x08 0 0 [])) (fun t =>
      (t.port .d).out == [.ending ⟨none, .badOrder, true, false, none, 0, none, none⟩]) = true := by decide +kernel

/-! ## A state and operands that meet the hypotheses of each statement -/

theorem witness_StepRunsFrontCommand :
    (State.reset.setPending [.commitBegin, .powerOnReset]).pending = .commitBegin :: [.powerOnReset] := rfl

/-- No drive moving; one drive at the timer's last value before the limit, one past it, and one at 158. -/
theorem witness_IdleStepAdvancesSeekTimers :
    State.reset.pending = [] ∧ (∀ d, (State.reset.monOf d).state = .absent) ∧
    ∀ n ∈ [158, 159, 160],
      let s := onMon (withDrive .seeking) fun m => { m with seekTimer := n }
      (s.pending = [] ∧ (s.monOf 3).state = .seeking ∧ (159 ≤ (s.monOf 3).seekTimer ↔ n ≠ 158) ∧
        (∀ e, e ≠ 3 → (s.monOf e).state = .absent) ∧
        s.tickAll.monOf 3 = { s.monOf 3 with seekTimer := min 160 (n + 1) }) := by decide +kernel

theorem witness_OnlineFallTakesDriveOffline :
    (((withDrive .ready).monOf 3).state ≠ .absent ∧ ((withDrive .ready).monOf 3).state ≠ .offline) ∧
    ((withDrive .absent).monOf 3).state = .absent ∧ ((withDrive .offline).monOf 3).state = .offline := by decide

/-- Counts at both ends of the passing range with the last gate passed; the 30th gate; the 29th. -/
theorem witness_GateCloseJudgesTheCount :
    (∀ s ∈ [gated 188 0 0 true, gated 196 0 0 true, gated 187 15 14 true, gated 197 14 14 true, gated 188 15 14 false],
      (s.monOf 3).state = .spinCheck ∧ (s.monOf 3).gateOpen = true) ∧
    (30 ≤ ((gated 187 15 14 true).monOf 3).gatePasses + ((gated 187 15 14 true).monOf 3).gateFails + 1) ∧
    (((gated 197 14 14 true).monOf 3).gatePasses + ((gated 197 14 14 true).monOf 3).gateFails + 1 < 30) := by
  decide +kernel

theorem witness_SectorCounterTracksPulses :
    (((withDrive .faulted).monOf 3).state ≠ .absent ∧ ((withDrive .faulted).monOf 3).state ≠ .offline) ∧
    ((withDrive .absent).monOf 3).state = .absent := by decide

theorem witness_MatchingIndexClearsMismatches :
    let s := onMon (withDrive .ready) fun m => { m with sector := 31 }
    (s.monOf 3).state ≠ .absent ∧ (s.monOf 3).state ≠ .offline ∧ (s.monOf 3).sector = 31 := by decide

theorem witness_SecondMismatchIsAClockFault :
    let s := onMon (withDrive .ready) fun m => { m with sector := 30, mismatch := 1 }
    (s.monOf 3).state ≠ .absent ∧ (s.monOf 3).state ≠ .offline ∧ (s.monOf 3).state ≠ .faulted ∧
      (s.monOf 3).sector ≠ 31 ∧ 1 ≤ (s.monOf 3).mismatch := by decide

/-- Drive 3 ORIENTING with this request, this sector in progress. -/
def orienting (r : Request) (sector : Nat) : State :=
  onMon (linked (serving .orienting r) .free) fun m => { m with sector := sector }

theorem witness_RecallPointMakesACandidate :
    let s := orienting (request .read 512) 2
    let r := request .read 512
    (s.monOf 3).state = .orienting ∧ s.serving 3 = some r ∧ r.order.transfers = true ∧
      (s.monOf 3).nextSector = (r.target (s.geom 3) + 32 - s.policy.margin) % 32 ∧
      (s.monOf 3).nextSector ≠ r.target (s.geom 3) ∧ (s.port r.path).link ≠ .receiving ∧
      s.engine.holder ≠ some (.host 3 r.path r.tag) ∧ Work.host 3 r.path r.tag ∉ s.engine.candidates := by
  decide +kernel

theorem witness_TargetPulseBeforeAcceptIsAMiss :
    let r := { request .read 512 with missCount := 13 }
    let s := (orienting r 4).setEngine (held .recalling)
    (s.monOf 3).state = .orienting ∧ s.serving 3 = some r ∧ r.order.transfers = true ∧
      (s.monOf 3).nextSector = r.target (s.geom 3) ∧ s.engine.phase = .recalling ∧
      s.engine.holder = some (.host 3 r.path r.tag) ∧ r.missCount + 1 < s.policy.stallLimit := by decide +kernel

/-- A candidate at its target, on a path that is RECEIVING; a RECEIVING path at the recall point for M = 1 and M = 3; the
target of a request that is neither recalled nor a candidate. The miss before the last that the limit allows. -/
theorem witness_TargetPulseBeforeAcceptIsAMiss_not_recalled :
    let r := { request .read 512 with missCount := 13 }
    let at' (sector : Nat) (cands : List Work) (margin : Nat) : State :=
      (linked (onMon ((serving .orienting r).setEngine (Engine.freeWith cands)) fun m => { m with sector := sector })
        .receiving).setPolicy { Policy.initial with margin := margin }
    let meets' (s : State) : Bool :=
      (s.monOf 3).state == .orienting && s.serving 3 == some r && r.order.transfers &&
        s.engine.holder != some (.host 3 r.path r.tag) && decide (r.missCount + 1 < s.policy.stallLimit)
    (let s := at' 4 [.host 3 .a 1] 2
     meets' s = true ∧ (s.monOf 3).nextSector = r.target (s.geom 3) ∧ Work.host 3 r.path r.tag ∈ s.engine.candidates) ∧
    (∀ x ∈ [(3, 1), (1, 3)],
      let s := at' x.1 [] x.2
      (meets' s = true ∧ (s.monOf 3).nextSector ≠ r.target (s.geom 3) ∧
        (s.monOf 3).nextSector = (r.target (s.geom 3) + 32 - s.policy.margin) % 32 ∧
        Work.host 3 r.path r.tag ∉ s.engine.candidates ∧ (s.port r.path).link = .receiving)) ∧
    (let s := at' 4 [] 2
     meets' s = true ∧ (s.monOf 3).nextSector = r.target (s.geom 3) ∧
       Work.host 3 r.path r.tag ∉ s.engine.candidates) := by decide +kernel

/-- A first index mismatch, one below 31 and at 0: on an idle drive, on one whose transfer is being stopped or drained,
and on one that a pass being stopped holds; with a recall standing, with a candidate, and connected; in a relocation's pass
and in a scan's. -/
theorem witness_MatchingIndexClearsMismatches_first :
    let r := { request .read 512 with missCount := 13 }
    let first (s : State) : Bool :=
      (s.monOf 3).state.online && (s.monOf 3).state != .faulted && (s.monOf 3).sector != 31 &&
        decide ((s.monOf 3).mismatch = 0)
    (∀ n ∈ [0, 30], first (onMon (withDrive .ready) fun m => { m with sector := n }) = true) ∧
    (withDrive .ready).serving 3 = none ∧ (withDrive .ready).engine.holder = none ∧
    (first (connected r id) = true ∧ (connected r id).serving 3 = some r ∧
      ((connected r id).monOf 3).state = .transferring ∧ (connected r id).engine.holder = some (.host 3 r.path r.tag) ∧
      (connected r id).engine.phase = .running ∧ (connected r id).engine.stop = .none ∧
      r.missCount + 1 < (connected r id).policy.stallLimit) ∧
    ((connected r fun e => { e with stop := .drop }).engine.stop ≠ .none ∧
      (connected r fun e => { e with phase := .draining }).engine.phase ≠ .running) ∧
    (let s := (orienting r 9).setEngine (held .recalling)
     first s = true ∧ (s.monOf 3).state = .orienting ∧ s.serving 3 = some r ∧ r.order.transfers = true ∧
       s.engine.holder = some (.host 3 r.path r.tag) ∧ s.engine.phase = .recalling) ∧
    (let s := (orienting r 9).setEngine (Engine.freeWith [.host 3 .a 1])
     first s = true ∧ s.serving 3 = some r ∧ s.engine.holder ≠ some (.host 3 r.path r.tag)) ∧
    (∀ w ∈ [Work.reloc 3, .scan 3],
      let s := (withDrive .transferring).setEngine { Engine.freeWith [] with holder := some w, phase := .pass }
      (first s = true ∧ s.serving 3 = none ∧ s.engine.stop = .none ∧ s.engine.holder = some w)) := by decide +kernel

/-- The first mismatch counts and faults nothing (R11). -/
theorem test_first_mismatch :
    nextIs (.indexPulse 3) (onMon (withDrive .ready) fun m => { m with sector := 30 }) (fun t =>
      (t.monOf 3).state == .ready && (t.monOf 3).mismatch == 1 && (t.scanOf 3).idle == 1) = true := by decide +kernel

/-- The request one miss before the stall limit. -/
def last : Request := { request .read 512 with missCount := 14 }

/-- A pulse on the target of a recalled request; an index mismatch while ORIENTING; an order frame on a candidate's
path; a connected READ whose slots are both FULL. -/
theorem witness_StallLimitEndsTheRequest :
    (let s := (orienting last 4).setEngine (held .recalling)
     s.stallsAt (.pulse 3 mark5) = true ∧ s.serving 3 = some last ∧ s.req? 3 last.path last.tag = some last) ∧
    (let s := orienting last 7
     s.stallsAt (.index 3) = true ∧ s.serving 3 = some last ∧ s.req? 3 last.path last.tag = some last) ∧
    (let s := (orienting last 4).setEngine (Engine.freeWith [.host 3 .a 1])
     s.stallsAt (.orderFrame .a readFrame) = true ∧ s.serving 3 = some last ∧
       s.req? 3 last.path last.tag = some last ∧
       ∃ w ∈ s.engine.candidates, w.isOf .a = true ∧ w.drive = 3 ∧ s.wouldStall 3 = true) ∧
    (let s := connected last fun e => { e with slot1 := ⟨.full, 1667, []⟩, slot2 := ⟨.full, 1668, []⟩ }
     s.stallsAt (.pulse 3 mark5) = true ∧ s.serving 3 = some last ∧ s.req? 3 last.path last.tag = some last ∧
       s.connected 3 last.path last.tag = true) := by decide +kernel

theorem witness_SeekCompleteEndsTheMotion :
    (let s := serving .seeking (request .read 512)
     (s.monOf 3).state = .seeking ∧ s.serving 3 = some (request .read 512) ∧ (request .read 512).order ≠ .position) ∧
    (let s := serving .seeking (request .position 0)
     (s.monOf 3).state = .seeking ∧ s.serving 3 = some (request .position 0) ∧
       s.engine.holder ≠ some (.host 3 .a 1)) ∧
    (let s := onMon (withDrive .recalibrating) fun m => { m with recal := .spinCheck }
     (s.monOf 3).state = .recalibrating ∧ (s.monOf 3).recal = .spinCheck) ∧
    ((withDrive .seeking).serving 3 = none ∧ (withDrive .seeking).reloc = none ∧
      ((withDrive .seeking).scanOf 3).phase = .none ∧ ((withDrive .recalibrating).monOf 3).recal = .plain) := by
  decide +kernel

/-- The seek of a relocation and of a scan pass; the recalibrate of an order that a path reset took away. -/
theorem witness_SeekCompleteEndsTheMotion_passes :
    (let s := (withDrive .seeking).setReloc (some (reloc40 .readPass .none))
     (s.monOf 3).state = .seeking ∧ s.serving 3 = none ∧ s.reloc = some (reloc40 .readPass .none) ∧
       (reloc40 .readPass .none).drive = 3 ∧ (reloc40 .readPass .none).holds = true) ∧
    (let s := (withDrive .seeking).setScan 3 ⟨30, .seeking, []⟩
     (s.monOf 3).state = .seeking ∧ s.serving 3 = none ∧ s.reloc = none ∧ (s.scanOf 3).phase ≠ .none) ∧
    (∀ c ∈ [Recal.order, .orderFaulted],
      let s := onMon (withDrive .recalibrating) fun m => { m with recal := c }
      ((s.monOf 3).state = .recalibrating ∧ (s.monOf 3).recal = c ∧ s.serving 3 = none)) := by decide +kernel

theorem witness_SeekLimitFaultsTheDrive :
    ((withDrive .seeking).monOf 3).state = .seeking ∧ ((withDrive .recalibrating).monOf 3).state = .recalibrating ∧
    (((withDrive .ready).monOf 3).state ≠ .seeking ∧ ((withDrive .ready).monOf 3).state ≠ .recalibrating) ∧
    ((onMon (withDrive .recalibrating) fun m => { m with recal := .reseek }).monOf 3).recal = .reseek := by decide

theorem witness_FaultLineFaultsTheDrive :
    (let s := (withDrive .transferring).setGate (some ⟨3, .write⟩)
     (s.monOf 3).state ≠ .absent ∧ (s.monOf 3).state ≠ .offline ∧ (s.monOf 3).state ≠ .faulted ∧
       s.gate = some ⟨3, .write⟩) ∧
    (withDrive .ready).gate ≠ some ⟨3, .write⟩ ∧ ((withDrive .faulted).monOf 3).state = .faulted := by decide +kernel

/-- One eligible host candidate, with and without an ending waiting on its path; a relocation and two scans; two scans
alone; a held engine. -/
theorem witness_EngineIsGrantedInOrder :
    (let s := (orienting (request .read 512) 3).setEngine (Engine.freeWith [.host 3 .a 1])
     s.engine.phase = .free ∧ (∃ w ∈ s.engine.candidates, s.eligible w = true ∧ w.isHost = true) ∧
       (∀ w ∈ s.engine.candidates, w = .host 3 .a 1) ∧ s.req? 3 .a 1 = some (request .read 512)) ∧
    (let s := State.reset.setEngine (Engine.freeWith [.scan 1, .reloc 5])
     s.engine.phase = .free ∧ (∀ w ∈ s.engine.candidates, w.isHost = false) ∧
       Work.reloc 5 ∈ s.engine.candidates) ∧
    (let s := State.reset.setEngine (Engine.freeWith [.scan 7, .scan 0])
     s.engine.phase = .free ∧ (∀ w ∈ s.engine.candidates, w.isHost = false) ∧
       (∀ e, Work.reloc e ∉ s.engine.candidates) ∧ Work.scan 7 ∈ s.engine.candidates) ∧
    (let s := (orienting (request .read 512) 3).setEngine (Engine.freeWith [.host 3 .a 1])
     s.portWaits .a = false ∧
       (s.setPort .a { s.port .a with endings := [⟨some 2, .normal, false, false, some 3, 1, none, none⟩] }).portWaits .a =
         true) ∧
    ((connected (request .read 512) id).engine.phase ≠ .free ∧ (connected (request .read 512) id).reloc = none) := by
  decide +kernel

theorem witness_AcceptConnectsTheRequest :
    let r := request .write 512
    let s := linked ((serving .orienting r).setEngine (held .recalling)) .sending
    s.engine.holder = some (.host 3 .a 1) ∧ s.engine.phase = .recalling ∧ s.req? 3 .a 1 = some r ∧
      ([0x02, 0x01] : List Byte).length = 2 ∧ byteAt [0x02, 0x01] 0 = 2 ∧ byteAt [0x02, 0x01] 1 = (1 : Tag).val ∧
      byteAt [0x02, 0x00] 1 ≠ (1 : Tag).val ∧ Path.b ≠ .a ∧ block5 ≤ r.last (s.geom 3) ∧
      s.engine.slot1 = Slot.none ∧ s.engine.slot2 = Slot.none ∧ s.engine.turn2 = false ∧
      s.engine.nextTrack = none ∧ State.reset.engine.phase ≠ .recalling ∧
      (connected r id).engine.phase ≠ .recalling := by decide +kernel

/-- The walk of drive 3's request at this step, with this many rereads left. -/
def walkAt (step left : Nat) : BlockWalk := ⟨.readBlock, 3, .a, 1, ⟨none, ⟨13, 0, 5⟩, false⟩, ladder0, step, left⟩

/-- What every connected request of the tests meets at its sector. -/
def atItsSector (s : State) (r : Request) : Prop :=
  (s.monOf 3).state = .transferring ∧ s.engine.holder = some (.host 3 .a 1) ∧ s.engine.phase = .running ∧
    s.engine.hand = none ∧ s.engine.stop = .none ∧ s.req? 3 .a 1 = some r ∧ s.serving 3 = some r ∧
    s.engine.current = some ⟨block5, ⟨13, 0, 5⟩⟩ ∧ 5 = (s.monOf 3).nextSector ∧ s.walk = none ∧
    (s.monOf 3).markCheck = .none

/-- The mark check PENDING and RESEEK; a mark of the right cylinder, and one of the cylinder below. -/
theorem witness_SeekLimitFaultsTheDrive_marks :
    ∀ o ∈ [QOrder.read, .verify], ∀ c ∈ [MarkCheck.pending, .reseek],
      let r := request o 512
      let s := onMon (connected r id) fun m => { m with markCheck := c }
      ((s.monOf 3).state = .transferring ∧ s.engine.holder = some (.host 3 .a 1) ∧ s.engine.phase = .running ∧
        s.engine.hand = none ∧ s.engine.stop = .none ∧ s.req? 3 .a 1 = some r ∧ s.serving 3 = some r ∧
        s.engine.current = some ⟨block5, ⟨13, 0, 5⟩⟩ ∧ 5 = (s.monOf 3).nextSector ∧ s.walk = none ∧
        s.engine.slot1.st = .empty ∧ (s.monOf 3).markCheck = c ∧
        cylinderMatches (expectation s.map (s.geom 3) 3 ⟨13, 0⟩ false) ⟨13, 0, 5⟩ mark5 = true ∧
        cylinderMatches (expectation s.map (s.geom 3) 3 ⟨13, 0⟩ false) ⟨13, 0, 5⟩ { mark5 with cyl := 12 } = false) := by
  decide +kernel

/-- A WRITE after a seek, its block FULL: whole, and the partial last block; marks as above. -/
theorem witness_marks_of_a_write_after_a_seek :
    ∀ c ∈ [MarkCheck.pending, .reseek], ∀ x ∈ [(3, 512), (1, 511)],
      let r := { request .write x.2 with count := x.1 }
      let s := onMon (connected r fun e => { e with slot1 := ⟨.full, block5, [7]⟩ }) fun m => { m with markCheck := c }
      ((s.monOf 3).state = .transferring ∧ s.engine.holder = some (.host 3 .a 1) ∧ s.engine.phase = .running ∧
        s.engine.hand = none ∧ s.engine.stop = .none ∧ s.req? 3 .a 1 = some r ∧ s.serving 3 = some r ∧
        s.engine.current = some ⟨block5, ⟨13, 0, 5⟩⟩ ∧ 5 = (s.monOf 3).nextSector ∧ s.walk = none ∧
        s.engine.fullBytes block5 = some [7] ∧ s.engine.slot2 = Slot.none ∧ s.engine.merge = .none ∧
        (block5 = r.last (s.geom 3) ↔ r.lastBytes < 512) ∧ (s.monOf 3).markCheck = c ∧
        cylinderMatches (.definite 13 0 false) ⟨13, 0, 5⟩ mark5 = true ∧
        cylinderMatches (.definite 13 0 false) ⟨13, 0, 5⟩ { mark5 with cyl := 12 } = false ∧
        expectation s.map (s.geom 3) 3 ⟨13, 0⟩ false = .definite 13 0 false) := by
  decide +kernel

/-- The relocation's pass on drive 3 in this stage and revolution, these sectors begun, the sector before `sec` in
progress, with this mark check. -/
def passing (st : Stage) (rev : CommitRev) (begun sec : Nat) (c : MarkCheck) : State :=
  (onMon (passAt st rev [] (buffer22 .damaged)) fun m => { m with sector := (sec + 31) % 32, markCheck := c }).setEngine
    { Engine.freeWith [] with holder := some (.reloc 3), phase := .pass, begun := begun }

/-- The scan pass on drive 3's track (12, 3) with its last sector to begin, with this mark check. -/
def scanning (c : MarkCheck) : State :=
  (onMon ((scannable .transferring).setScan 3 ⟨31, .pass, []⟩) fun m => { m with sector := 31, markCheck := c }).setEngine
    { Engine.freeWith [] with holder := some (.scan 3), phase := .pass, begun := 31 }

/-- The first and the last sector of a read pass, a sector in and one out of a failing set, the CHECK sector, the last
sector of a verify revolution, and one of a scan pass; marks that pass their cylinder check and marks that fail it. -/
theorem witness_ReadBeginsAtItsSector_passes :
    let w : TrackWalk := ⟨3, ⟨40, 1⟩, [22], ladder0, 1, 1⟩
    ∀ c ∈ [MarkCheck.none, .pending, .reseek],
      (∀ x ∈ [(Stage.readPass, CommitRev.none, 0, 0), (.readPass, .none, 31, 31), (.commit, .check, 0, 9),
          (.commit, .verify, 31, 8)],
        let s := passing x.1 x.2.1 x.2.2.1 x.2.2.2 c
        (passPulse s 3 (.reloc 3) x.2.2.2 ∧ s.reloc = some (reloc40 x.1 x.2.1) ∧ s.engine.begun < 32 ∧
          s.trackWalk = none ∧ expects s 3 ⟨40, 1⟩ false = .definite 40 1 false ∧
          expects s 3 ⟨197, 0⟩ false = .opened ∧ expects s 3 ⟨197, 0⟩ true = .definite 40 1 true)) ∧
      (let s := (passing .readPass .none 5 22 c).setTrackWalk (some w)
       passPulse s 3 (.reloc 3) 22 ∧ s.trackWalk = some w ∧ 22 ∈ w.failing) ∧
      (let s := scanning c
       passPulse s 3 (.scan 3) 0 ∧ s.engine.begun < 32 ∧ (s.monOf 3).pointer = ⟨12, 3⟩ ∧
         expects s 3 ⟨12, 3⟩ false = .definite 12 3 false) ∧
      (let s := (passing .readPass .none 5 7 c).setTrackWalk (some w)
       passPulse s 3 (.reloc 3) 7 ∧ s.reloc = some (reloc40 .readPass .none) ∧ 7 ∉ w.failing) ∧
      cylinderMatches (.definite 40 1 false) ⟨40, 1, 0⟩ ⟨40, 1, 0, false⟩ = true ∧
      cylinderMatches (.definite 40 1 false) ⟨40, 1, 0⟩ ⟨41, 1, 0, false⟩ = false ∧
      cylinderMatches .opened ⟨197, 0, 9⟩ ⟨197, 0, 9, false⟩ = true ∧
      cylinderMatches .opened ⟨197, 0, 9⟩ ⟨196, 0, 9, false⟩ = false ∧
      cylinderMatches (.definite 40 1 true) ⟨197, 0, 8⟩ ⟨197, 0, 8, true⟩ = false ∧
      cylinderMatches (.definite 12 3 false) ⟨12, 3, 0⟩ ⟨13, 3, 0, false⟩ = false := by
  unfold passPulse expects; decide +kernel

theorem witness_ReadBeginsAtItsSector :
    let s := connected (request .read 512) id
    atItsSector s (request .read 512) ∧ s.engine.slot1.st = .empty ∧ s.engine.turn2 = false ∧
      s.engine.slot2.st ≠ .filling := by unfold atItsSector; decide +kernel

/-- A whole block that is not the last; a mark that meets its expectation and one that does not. -/
theorem witness_WriteBeginsAtItsSector :
    let s := connected (request .write 512) fun e => { e with slot1 := ⟨.full, block5, [7]⟩ }
    atItsSector s (request .write 512) ∧ s.engine.fullBytes block5 = some [7] ∧
      block5 ≠ (request .write 512).last (s.geom 3) ∧
      meets (expectation s.map (s.geom 3) 3 ⟨13, 0⟩ false) ⟨13, 0, 5⟩ mark5 = true ∧
      meets (expectation s.map (s.geom 3) 3 ⟨13, 0⟩ false) ⟨13, 0, 5⟩ { mark5 with alt := true } = false := by
  unfold atItsSector; decide +kernel

/-- A last block of one byte and of 511, FULL in slot 1, its old block not yet read. -/
theorem witness_WriteBeginsAtItsSector_merge :
    ∀ n ∈ [1, 511],
      let r := { request .write n with count := 1 }
      let s := connected r fun e => { e with slot1 := ⟨.full, block5, [7]⟩ }
      ((s.monOf 3).state = .transferring ∧ s.engine.holder = some (.host 3 .a 1) ∧ s.engine.phase = .running ∧
        s.engine.hand = none ∧ s.engine.stop = .none ∧ s.req? 3 .a 1 = some r ∧
        s.engine.current = some ⟨block5, ⟨13, 0, 5⟩⟩ ∧ 5 = (s.monOf 3).nextSector ∧ s.walk = none ∧
        (s.monOf 3).markCheck = .none ∧ s.engine.slot1 = ⟨.full, block5, [7]⟩ ∧ s.engine.slot2 = Slot.none ∧
        block5 = r.last (s.geom 3) ∧ r.lastBytes < 512 ∧ s.engine.merge = .none) := by decide +kernel

/-- A reread of a withheld write's mark; the first and the last sector of a write revolution. -/
theorem witness_WriteBeginsAtItsSector_walk_and_commit :
    (let r := request .write 512
     let w := { walkAt 6 1 with kind := .writeMark }
     let s := (connected r fun e => { e with slot1 := ⟨.full, block5, [7]⟩ }).setWalk (some w)
     (s.monOf 3).state = .transferring ∧ s.engine.holder = some (.host 3 .a 1) ∧ s.engine.phase = .running ∧
       s.engine.hand = none ∧ s.engine.stop = .none ∧ s.req? 3 .a 1 = some r ∧
       s.engine.current = some ⟨block5, ⟨13, 0, 5⟩⟩ ∧ 5 = (s.monOf 3).nextSector ∧ s.walk = some w ∧
       s.engine.fullBytes block5 = some [7]) ∧
    (∀ x ∈ [(0, 22, BufState.damaged), (31, 21, .good)],
      let s := passing .commit .write x.1 x.2.1 .none
      (passPulse s 3 (.reloc 3) x.2.1 ∧ s.reloc = some (reloc40 .commit .write) ∧ s.engine.begun < 32 ∧
        s.buffer.blocks[x.2.1]? = some ⟨x.2.2, [0]⟩)) := by unfold passPulse; decide +kernel

/-- A COMMIT writes the home's mark and the alternate flag, here (40, 1), and a DAMAGED block with the damage tag (R29,
R126). -/
theorem test_write_revolution :
    nextIs (.sectorPulse 3 mark5) (passing .commit .write 0 22 .none) (fun t =>
      t.gate == some ⟨3, .write⟩ && (t.engine.hand.map (·.op)) ==
        some (.passWrite ⟨3, ⟨197, 0, 22⟩, some ⟨40, 1, 22, true⟩, [0], .damageTag⟩)) = true ∧
    nextIs (.sectorPulse 3 mark5) (passing .commit .write 1 23 .none) (fun t =>
      (t.engine.hand.map (·.op)) ==
        some (.passWrite ⟨3, ⟨197, 0, 23⟩, some ⟨40, 1, 23, true⟩, [0], .computed⟩)) = true := by decide +kernel

theorem witness_UnreadySlotsMissTheSector :
    (let s := connected (request .read 512) fun e => { e with slot1 := ⟨.full, 1667, []⟩, slot2 := ⟨.full, 1668, []⟩ }
     atItsSector s (request .read 512) ∧ s.engine.slot1.st = .full ∧ s.engine.slot2.st = .full ∧
       (request .read 512).missCount + 1 < s.policy.stallLimit) ∧
    (let s := connected (request .write 512) fun e => { e with slot1 := ⟨.filling, block5, []⟩ }
     atItsSector s (request .write 512) ∧ s.engine.fullBytes block5 = none) := by
  unfold atItsSector; decide +kernel

/-- The request connected with this sector in hand. -/
def inHand (r : Request) (op : HandOp) (met : Bool) : State :=
  connected r fun e => { e with slot1 := ⟨.filling, block5, []⟩, hand := some ⟨3, ⟨13, 0, 5⟩, op, met⟩ }

theorem witness_CleanBlockIsOfferedToThePath :
    let s := inHand (request .read 512) .firstRead true
    let c : CurBlock := ⟨block5, ⟨13, 0, 5⟩⟩
    s.engine.hand = some ⟨3, c.phys, .firstRead, true⟩ ∧ s.engine.stop = .none ∧
      s.serving 3 = some (request .read 512) ∧ s.engine.current = some c ∧
      (⟨[], .clean⟩ : Yield).check = .clean ∧ c.block ≠ (request .read 512).last (s.geom 3) ∧ c.phys.sec ≠ 31 := by
  decide +kernel

/-- A VERIFY's block, its last block, and the old block of a merge. -/
theorem witness_CleanBlockIsOfferedToThePath_verify_and_merge :
    let c : CurBlock := ⟨block5, ⟨13, 0, 5⟩⟩
    (let s := inHand (request .verify 512) .firstRead true
     s.engine.hand = some ⟨3, c.phys, .firstRead, true⟩ ∧ s.engine.stop = .none ∧
       s.serving 3 = some (request .verify 512) ∧ s.engine.current = some c ∧
       c.block ≠ (request .verify 512).last (s.geom 3) ∧ s.engine.slot1 = ⟨.filling, c.block, []⟩ ∧
       s.engine.slot2 = Slot.none) ∧
    (let r := { request .verify 512 with count := 1 }
     let s := inHand r .firstRead true
     s.serving 3 = some r ∧ c.block = r.last (s.geom 3) ∧ s.queue 3 = [r] ∧
       s.engine.holder = some (.host 3 r.path r.tag) ∧ s.engine.phase = .running) ∧
    (let r := { request .write 100 with count := 1 }
     let s := connected r fun e => { e with
       slot1 := ⟨.full, block5, [7]⟩, slot2 := ⟨.filling, block5, []⟩, merge := .oldRead
       hand := some ⟨3, ⟨13, 0, 5⟩, .firstRead, true⟩ }
     s.engine.hand = some ⟨3, c.phys, .firstRead, true⟩ ∧ s.engine.stop = .none ∧ s.serving 3 = some r ∧
       s.engine.current = some c ∧ s.engine.slot1 = ⟨.full, c.block, [7]⟩ ∧
       s.engine.slot2 = ⟨.filling, c.block, []⟩) := by decide +kernel

/-- A burst in a READ's, a VERIFY's and a merge's block; a sector of a relocation's pass and of a scan's. -/
theorem witness_CleanBlockIsOfferedToThePath_corrected_and_passes :
    (⟨[1], .burst 0 1⟩ : Yield).check = .burst 0 1 ∧
    (∀ o ∈ [QOrder.read, .verify],
      let s := inHand (request o 512) .firstRead true
      (s.engine.hand = some ⟨3, ⟨13, 0, 5⟩, .firstRead, true⟩ ∧ s.engine.stop = .none ∧
        s.serving 3 = some (request o 512) ∧ s.engine.current = some ⟨block5, ⟨13, 0, 5⟩⟩ ∧
        block5 ≠ (request o 512).last (s.geom 3) ∧ s.engine.slot1 = ⟨.filling, block5, []⟩ ∧
        s.engine.slot2 = Slot.none)) ∧
    (let r := { request .write 100 with count := 1 }
     let s := connected r fun e => { e with
       slot1 := ⟨.full, block5, [7]⟩, slot2 := ⟨.filling, block5, []⟩, merge := .oldRead
       hand := some ⟨3, ⟨13, 0, 5⟩, .firstRead, true⟩ }
     s.engine.hand = some ⟨3, ⟨13, 0, 5⟩, .firstRead, true⟩ ∧ s.serving 3 = some r ∧
       s.engine.slot1 = ⟨.full, block5, [7]⟩ ∧ s.engine.slot2 = ⟨.filling, block5, []⟩) ∧
    (∀ met ∈ [true, false],
      let h : Hand := ⟨3, ⟨40, 1, 9⟩, .passRead, met⟩
      let a := passing .readPass .none 1 10 .none
      let b := scanning .none
      (let s := a.setEngine { a.engine with hand := some h }
       s.engine.hand = some h ∧ s.engine.stop = .none ∧ s.engine.holder = some (.reloc 3)) ∧
      (let s := b.setEngine { b.engine with hand := some h }
       s.engine.hand = some h ∧ s.engine.stop = .none ∧ s.engine.holder = some (.scan 3))) := by decide +kernel

/-- The request's block on sector 31 of the track of drive 3's cylinder 13 with this head in hand, these candidates in the
list; drive 5's request has missed four times. -/
def at31 (r : Request) (head : Nat) (cands : List Work) : State :=
  let n := (13 * 4 + head) * 32 + 31
  (connected r fun e => { e with
    current := some ⟨n, ⟨13, head, 31⟩⟩, candidates := cands, slot1 := ⟨.filling, n, []⟩
    hand := some ⟨3, ⟨13, head, 31⟩, .firstRead, true⟩ }).setQueue 5 [{ request .read 512 with path := .b, missCount := 4 }]

/-- A READ's and a VERIFY's block on sector 31, its last and one with a block left: the next track on the same cylinder,
with no candidate and with one of another drive at the yield threshold, and on the next cylinder after head 3. -/
theorem witness_CleanBlockIsOfferedToThePath_boundaries :
    ∀ o ∈ [QOrder.read, .verify], ∀ x ∈ [(1, 0, []), (2, 0, []), (2, 0, [Work.host 5 .b 1]), (2, 3, [])],
      let r := { request o 512 with addr := ⟨13, x.2.1, 31⟩, count := x.1 }
      let s := at31 r x.2.1 x.2.2
      let n := (13 * 4 + x.2.1) * 32 + 31
      (s.engine.hand = some ⟨3, ⟨13, x.2.1, 31⟩, .firstRead, true⟩ ∧ s.engine.stop = .none ∧ s.serving 3 = some r ∧
        s.engine.current = some ⟨n, ⟨13, x.2.1, 31⟩⟩ ∧ s.engine.slot1 = ⟨.filling, n, []⟩ ∧
        s.engine.slot2 = Slot.none ∧ (n = r.last (s.geom 3) ↔ x.1 = 1) ∧
        s.engine.holder = some (.host 3 r.path r.tag) ∧ s.engine.phase = .running ∧
        ((physOf s.map (s.geom 3) 3 false (n + 1)).track.cyl = 13 ↔ x.2.1 = 0) ∧
        (s.policy.yieldThreshold ≤ s.missOf (.host 5 .b 1)) ∧ (Work.host 5 .b 1).drive ≠ 3) := by decide +kernel

/-- A READ's block of sector 31 goes on to the next head of the cylinder, or drains for the next cylinder (R78, R85). -/
theorem test_track_boundary_of_a_read :
    (let r := { request .read 512 with addr := ⟨13, 0, 31⟩, count := 2 }
     nextIs (.sectorEnd 3 ⟨blockOfByte 7, .clean⟩) (at31 r 0 []) fun t =>
       t.engine.current == some ⟨1696, ⟨13, 1, 0⟩⟩ && (t.sideOf 3).head == 1 && t.engine.phase == .running) = true ∧
    (let r := { request .read 512 with addr := ⟨13, 3, 31⟩, count := 2 }
     nextIs (.sectorEnd 3 ⟨blockOfByte 7, .clean⟩) (at31 r 3 []) fun t =>
       t.engine.phase == .draining && t.engine.drain == .carryOn && t.engine.slot1.st == .full) = true := by
  decide +kernel

/-- The same block at its pulse: no sector in hand, the sector before it in progress. -/
def before31 (r : Request) (head : Nat) (slot : Slot) : State :=
  let s := at31 r head []
  onMon (s.setEngine { s.engine with hand := none, slot1 := slot }) fun m => { m with sector := 30 }

/-- Sector 31 of a READ's, a VERIFY's and a WRITE's track with a block left, on the same cylinder and on the next, and of
their last block. -/
theorem witness_sector_31_at_its_pulse :
    ∀ o ∈ [QOrder.read, .verify, .write], ∀ x ∈ [(1, 0), (2, 0), (2, 3)],
      let r := { request o 512 with addr := ⟨13, x.2, 31⟩, count := x.1 }
      let n := (13 * 4 + x.2) * 32 + 31
      let s := before31 r x.2 (if o = .write then ⟨.full, n, [7]⟩ else Slot.none)
      ((s.monOf 3).state = .transferring ∧ s.engine.holder = some (.host 3 .a 1) ∧ s.engine.phase = .running ∧
        s.engine.hand = none ∧ s.engine.stop = .none ∧ s.req? 3 .a 1 = some r ∧
        s.engine.current = some ⟨n, ⟨13, x.2, 31⟩⟩ ∧ 31 = (s.monOf 3).nextSector ∧ s.walk = none ∧
        (s.monOf 3).markCheck = .none ∧ s.engine.turn2 = false ∧ s.engine.slot2 = Slot.none ∧
        (n < r.last (s.geom 3) ↔ x.1 = 2) ∧ (o = .write → s.engine.fullBytes n = some [7]) ∧
        ((trackAfter s 3 r ⟨n, ⟨13, x.2, 31⟩⟩).cyl = 13 ↔ x.2 = 0)) := by decide +kernel

/-- A reread that recovers: a READ's and a VERIFY's last block, and one on sector 31 with a block left; the old block of a
merge; a READ's block that is lost while the one before it waits for the path. -/
theorem witness_FailedFirstReadStartsAWalk_recovers_and_drains :
    (∀ o ∈ [QOrder.read, .verify], ∀ x ∈ [(1, 0), (2, 0), (2, 3)],
      let r := { request o 512 with addr := ⟨13, x.2, 31⟩, count := x.1 }
      let n := (13 * 4 + x.2) * 32 + 31
      let a := at31 r x.2 []
      let s := (a.setEngine { a.engine with hand := some ⟨3, ⟨13, x.2, 31⟩, .reread, true⟩ }).setWalk (some (walkAt 2 0))
      (s.engine.hand = some ⟨3, ⟨13, x.2, 31⟩, .reread, true⟩ ∧ s.engine.stop = .none ∧ s.serving 3 = some r ∧
        s.engine.current = some ⟨n, ⟨13, x.2, 31⟩⟩ ∧ s.walk = some (walkAt 2 0) ∧ (n = r.last (s.geom 3) ↔ x.1 = 1) ∧
        s.engine.slot1 = ⟨.filling, n, []⟩ ∧ s.engine.slot2 = Slot.none ∧ s.queue 3 = [r] ∧
        s.engine.holder = some (.host 3 r.path r.tag) ∧ s.engine.phase = .running ∧
        ((trackAfter s 3 r ⟨n, ⟨13, x.2, 31⟩⟩).cyl = 13 ↔ x.2 = 0))) ∧
    (let r := { request .write 100 with count := 1 }
     let s := (connected r fun e => { e with
       slot1 := ⟨.full, block5, [7]⟩, slot2 := ⟨.filling, block5, []⟩, merge := .oldRead
       hand := some ⟨3, ⟨13, 0, 5⟩, .reread, true⟩ }).setWalk (some (walkAt 2 0))
     s.engine.hand = some ⟨3, ⟨13, 0, 5⟩, .reread, true⟩ ∧ s.engine.stop = .none ∧ s.serving 3 = some r ∧
       s.walk = some (walkAt 2 0) ∧ s.engine.slot1 = ⟨.full, block5, [7]⟩ ∧
       s.engine.slot2 = ⟨.filling, block5, []⟩) ∧
    (let r := request .read 512
     let s := (connected r fun e => { e with
       slot1 := ⟨.full, block5 - 1, [7]⟩, slot2 := ⟨.filling, block5, []⟩
       hand := some ⟨3, ⟨13, 0, 5⟩, .reread, false⟩ }).setWalk (some (walkAt 6 0))
     s.engine.hand = some ⟨3, ⟨13, 0, 5⟩, .reread, false⟩ ∧ s.engine.stop = .none ∧ s.serving 3 = some r ∧
       s.walk = some (walkAt 6 0) ∧ (walkAt 6 0).ladder[6]? = none ∧ s.engine.slot1.st = .full) := by decide +kernel

theorem witness_FailedFirstReadStartsAWalk :
    (let s := inHand (request .read 512) .firstRead false
     s.engine.hand = some ⟨3, ⟨13, 0, 5⟩, .firstRead, false⟩ ∧ s.engine.stop = .none ∧
       s.serving 3 = some (request .read 512) ∧ s.engine.current = some ⟨block5, ⟨13, 0, 5⟩⟩ ∧
       s.ladder[0]? = some ⟨.none, .normal, 2⟩ ∧ ∀ n ∈ s.notes, ¬(n.path = .a ∧ n.tag = 1)) ∧
    (⟨[], .uncorrectable 0⟩ : Yield).check = .uncorrectable 0 := by decide +kernel

/-- The pulse of a reread; a reread that ends with a reread left, with a step left and with none; the other block of a
READ not FULL; a write withheld for its mark. -/
theorem witness_FailedFirstReadStartsAWalk_rereads :
    (let r := request .read 512
     let s := (connected r fun e => { e with slot1 := ⟨.filling, block5, []⟩ }).setWalk (some (walkAt 2 1))
     (s.monOf 3).state = .transferring ∧ s.engine.holder = some (.host 3 .a 1) ∧ s.engine.phase = .running ∧
       s.engine.hand = none ∧ s.engine.stop = .none ∧ s.req? 3 .a 1 = some r ∧
       s.engine.current = some ⟨block5, ⟨13, 0, 5⟩⟩ ∧ 5 = (s.monOf 3).nextSector ∧ s.walk = some (walkAt 2 1)) ∧
    (∀ x ∈ [(1, 1), (5, 0), (6, 0)], ∀ o ∈ [QOrder.read, .verify, .write],
      let r := request o 512
      let s := (inHand r .reread true).setWalk (some (walkAt x.1 x.2))
      (s.engine.hand = some ⟨3, ⟨13, 0, 5⟩, .reread, true⟩ ∧ s.engine.stop = .none ∧ s.serving 3 = some r ∧
        s.engine.current = some ⟨block5, ⟨13, 0, 5⟩⟩ ∧ (ladder0[x.1]? = none ↔ x.1 = 6) ∧ s.queue 3 = [r] ∧
        s.engine.holder = some (.host 3 r.path r.tag) ∧ s.engine.phase = .running ∧ s.engine.slot1.st ≠ .full ∧
        s.engine.slot2.st ≠ .full ∧ block5 ≠ r.last (s.geom 3))) ∧
    (let s := inHand (request .write 512) .markFail false
     s.engine.hand = some ⟨3, ⟨13, 0, 5⟩, .markFail, false⟩ ∧ s.engine.stop = .none ∧
       s.serving 3 = some (request .write 512) ∧ s.engine.current = some ⟨block5, ⟨13, 0, 5⟩⟩ ∧ s.walk = none ∧
       s.ladder[0]? = some ⟨.none, .normal, 2⟩) := by decide +kernel

/-- A mark that fails again in the walk of a withheld write: a reread left, a step left, none. -/
theorem witness_FailedFirstReadStartsAWalk_marks :
    ∀ x ∈ [(1, 1), (5, 0), (6, 0)],
      let r := request .write 512
      let w := { walkAt x.1 x.2 with kind := .writeMark }
      let s := (inHand r .markFail false).setWalk (some w)
      (s.engine.hand = some ⟨3, ⟨13, 0, 5⟩, .markFail, false⟩ ∧ s.engine.stop = .none ∧ s.serving 3 = some r ∧
        s.engine.current = some ⟨block5, ⟨13, 0, 5⟩⟩ ∧ s.walk = some w ∧ (ladder0[x.1]? = none ↔ x.1 = 6) ∧
        s.queue 3 = [r] ∧ s.engine.holder = some (.host 3 r.path r.tag) ∧ s.engine.phase = .running) := by
  decide +kernel

/-- The first and the last bit of a burst of two bits that crosses a byte. -/
theorem witness_CorrectionInvertsTheBurst :
    let y : Yield := ⟨[0, 0], .burst 7 2⟩
    y.check = .burst 7 2 ∧ (block512 y.data)[0]? = some 0 ∧ (readBytes y)[0]? = some 1 ∧
      (block512 y.data)[1]? = some 0 ∧ (readBytes y)[1]? = some 0x80 := by decide +kernel

/-- The last block of a WRITE, written in a walk of its mark. -/
theorem witness_CompletedWriteIsDoneAndCopied_last_of_a_walk :
    let r := { request .write 512 with count := 1 }
    let s := (inHand r (.write ⟨13, 0⟩ [7]) true).setWalk (some { walkAt 2 0 with kind := .writeMark })
    s.engine.hand = some ⟨3, ⟨13, 0, 5⟩, .write ⟨13, 0⟩ [7], true⟩ ∧ s.engine.stop = .none ∧ s.serving 3 = some r ∧
      s.engine.current = some ⟨block5, ⟨13, 0, 5⟩⟩ ∧ s.walk.isSome = true ∧ block5 = r.last (s.geom 3) ∧
      s.queue 3 = [r] ∧ s.engine.holder = some (.host 3 r.path r.tag) ∧ s.engine.phase = .running := by decide +kernel

theorem witness_CompletedWriteIsDoneAndCopied :
    let s := (inHand (request .write 512) (.write ⟨13, 0⟩ [7]) true).setReloc
      (some ⟨3, ⟨13, 0⟩, ⟨13, 0⟩, false, ⟨196, 0⟩, .held, .first, .none, false⟩)
    let c : CurBlock := ⟨block5, ⟨13, 0, 5⟩⟩
    s.engine.hand = some ⟨3, c.phys, .write ⟨13, 0⟩ [7], true⟩ ∧ s.engine.stop = .none ∧
      s.serving 3 = some (request .write 512) ∧ s.engine.current = some c ∧ s.walk = none ∧
      c.block ≠ (request .write 512).last (s.geom 3) ∧ c.phys.sec ≠ 31 := by decide +kernel

/-- The last block of a drive's only request; sector 31 with the next track on the same cylinder, and on the next one;
a candidate of another drive one miss below the yield threshold and at it. -/
theorem witness_CompletedWriteIsDoneAndCopied_ends :
    (let r := { request .write 512 with count := 1 }
     let s := inHand r (.write ⟨13, 0⟩ [7]) true
     s.serving 3 = some r ∧ s.engine.current = some ⟨block5, ⟨13, 0, 5⟩⟩ ∧ block5 = r.last (s.geom 3) ∧
       s.queue 3 = [r] ∧ s.engine.holder = some (.host 3 r.path r.tag) ∧ s.engine.phase = .running) ∧
    (∀ head ∈ [0, 3], ∀ miss ∈ [3, 4],
      let ph : Addr := ⟨13, head, 31⟩
      let c : CurBlock := ⟨geo.blockOf ph, ph⟩
      let r := { request .write 512 with addr := ph }
      let s := (connected r fun e => { e with
        current := some c, hand := some ⟨3, ph, .write ⟨13, head⟩ [7], true⟩, candidates := [.host 5 .b 2] }).setQueue 5
          [{ request .read 512 with path := .b, tag := 2, missCount := miss }]
      let t := (physOf s.map (s.geom 3) 3 r.direct (c.block + 1)).track
      (s.engine.hand = some ⟨3, c.phys, .write ⟨13, head⟩ [7], true⟩ ∧ s.engine.stop = .none ∧ s.serving 3 = some r ∧
        s.engine.current = some c ∧ s.walk = none ∧ s.engine.holder = some (.host 3 r.path r.tag) ∧
        s.engine.phase = .running ∧ c.block ≠ r.last (s.geom 3) ∧ c.phys.sec = 31 ∧ (t.cyl = 13 ↔ head = 0) ∧
        (s.policy.yieldThreshold ≤ s.missOf (.host 5 .b 2) ↔ miss = 4))) := by decide +kernel

/-- A write in a walk of its mark; the 31st and the 32nd sector of a write revolution; the CHECK sector. -/
theorem witness_CompletedWriteIsDoneAndCopied_walk_and_commit :
    (let r := request .write 512
     let w := { walkAt 2 0 with kind := .writeMark }
     let s := (inHand r (.write ⟨13, 0⟩ [7]) true).setWalk (some w)
     s.engine.hand = some ⟨3, ⟨13, 0, 5⟩, .write ⟨13, 0⟩ [7], true⟩ ∧ s.engine.stop = .none ∧ s.serving 3 = some r ∧
       s.engine.current = some ⟨block5, ⟨13, 0, 5⟩⟩ ∧ s.walk = some w ∧ block5 ≠ r.last (s.geom 3)) ∧
    (let a := passing .commit .check 0 9 .none
     let h : Hand := ⟨3, ⟨197, 0, 9⟩, .check, true⟩
     let s := a.setEngine { a.engine with hand := some h }
     s.engine.hand = some h ∧ s.engine.stop = .none) ∧
    (∀ n ∈ [31, 32],
      let a := passing .commit .write n 9 .none
      let h : Hand := ⟨3, ⟨197, 0, 9⟩, .passWrite (a.commitOut 3 (reloc40 .commit .write) 9), true⟩
      let s := a.setEngine { a.engine with hand := some h }
      (s.engine.hand = some h ∧ s.engine.stop = .none ∧ s.engine.begun = n)) := by decide +kernel

/-- The last block of one byte, and of 512. -/
theorem witness_DataFrameFillsTheSlot :
    (∀ n ∈ [1, 512],
      let r := { request .write n with count := 1 }
      let s := connected r fun e => { e with slot1 := ⟨.filling, block5, []⟩ }
      s.engine.holder = some (.host 3 .a 1) ∧ s.engine.phase = .running ∧ s.req? 3 .a 1 = some r ∧
        s.engine.merge ≠ .oldRead ∧ s.engine.slot1.st = .filling ∧ s.engine.slot1.bytes = [] ∧
        s.engine.slot2.st ≠ .filling ∧
        (List.replicate n (0 : Byte)).length = r.bytesOf (s.geom 3) s.engine.slot1.block) ∧
    ((∀ d t, State.reset.engine.holder ≠ some (.host d .a t)) ∧ State.reset.load = none) := by decide +kernel

/-- S with this load in progress. -/
def loading (j : LoadJob) : State :=
  (State.reset.setLoad (some j)).setPort .s { State.reset.port .s with link := .receiving }

/-- A POLICY load that is one byte short, then whole. -/
theorem witness_LoadIsTakenWholeOrNotAtAll :
    let j : LoadJob := ⟨6, 0, 1, []⟩
    let s := loading j
    s.load = some j ∧ (s.port .s).link = .receiving ∧ (s.port .s).rx = none ∧
      (∀ d t, s.engine.holder ≠ some (.host d .s t)) ∧
      s.loadFault { j with data := j.data ++ [4, 8, 3, 4, 1, 1, 0] } = some (some 0) ∧
      s.loadFault { j with data := j.data ++ [4, 8, 3, 4, 1, 1, 0, 0] } = none ∧
      policyOf (j.data ++ [4, 8, 3, 4, 1, 1, 0, 0]) = some ⟨4, 8, 3, 4, 1, 1, 0⟩ := by decide +kernel

/-- An EXTENTS load tests the last block of a WRITE again while its old block is read or reread for the merge, and while
its write is withheld; a block being written, or reread for a READ, is begun (R83, R101, R157, R158). -/
theorem test_merge_block_is_not_begun :
    let w : Request := { request .write 100 with count := 1 }
    let fenced (s : State) : State := s.setExtents (⟨true, 3, 13, 13, .readOnly, 0⟩ :: List.replicate 15 Extent.initial)
    (∀ op ∈ [HandOp.firstRead, .reread, .markFail],
      (fenced (inHand w op true)).retestAll.engine.stop = .ending .readOnly) ∧
    (fenced (inHand w (.write ⟨13, 0⟩ [7]) true)).retestAll.engine.stop = .none ∧
    (inHand (request .read 512) .reread true).notBegun 3 (request .read 512) = block5 + 1 := by decide +kernel

/-- A transfer that an EXTENTS load stops: a block being written, and one being read. -/
theorem witness_LoadIsTakenWholeOrNotAtAll_stop :
    ∀ op ∈ [HandOp.write ⟨13, 0⟩ [7], .firstRead],
      let r := request .write 512
      let a := inHand r op true
      let s := a.setEngine { a.engine with slot1 := Slot.none, stop := .ending .fenced }
      (s.engine.hand = some ⟨3, ⟨13, 0, 5⟩, op, true⟩ ∧ s.engine.stop = .ending .fenced ∧
        s.engine.holder = some (.host 3 r.path r.tag) ∧ s.engine.phase = .running ∧ s.queue 3 = [r] ∧
        r.inService = true) := by decide +kernel

/-- Each other table's load taken on S: an entry of its last place, or a whole ladder. -/
theorem witness_LoadIsTakenWholeOrNotAtAll_tables :
    (∀ x ∈ [(⟨1, 7, 1, [1, 0, 64, 1, 2, 0, 0, 0]⟩ : LoadJob), ⟨2, 3, 1, 1 :: 0 :: 1 :: 4 :: List.replicate 21 0⟩,
        ⟨3, 7, 1, [0]⟩, ⟨4, 15, 1, [1, 3, 0, 13, 0, 13, 0, 0]⟩, ⟨5, 1, 2, [0, 0, 1, 0, 0, 4]⟩],
      (loading { x with data := [] }).loadFault x = none) ∧
    loadedRecords (driveNo 7) [0] = some [] ∧
    (List.range 2).map (fun i => ladderStepOf (entryAt [0, 0, 1, 0, 0, 4] 3 i)) =
      [⟨.none, .normal, 1⟩, ⟨.none, .normal, 4⟩].map some ∧
    (loading ⟨1, 7, 1, []⟩).geom 7 ≠ (geometryOf [1, 0, 64, 1, 2, 0, 0, 0]).getD geo ∧
    ((loading ⟨1, 7, 1, []⟩).monOf 7).state = .absent ∧ ((loading ⟨1, 7, 1, []⟩).scanOf 7).phase = .none := by
  decide +kernel

/-- A GEOMETRY load that marks a drive in a scan pass not present sets its idle count to 0 (log entry 55); one that keeps
it present abandons the pass and keeps the count (R139). -/
theorem test_geometry_load_on_a_scanned_drive :
    let taken (present : Bool) : State := (scanning .none).takeGeometry 3 { geo with present := present }
    (((taken false).monOf 3).state = .absent ∧ (taken false).scanOf 3 = ⟨0, .none, []⟩) ∧
    (((taken true).monOf 3).state = .ready ∧ (taken true).scanOf 3 = ⟨31, .none, []⟩) := by decide +kernel

/-- A READ-ONLY entry on cylinder 13 fails a waiting WRITE and not a READ, and the blocks after the one being
written. -/
theorem witness_LoadIsTakenWholeOrNotAtAll_extents :
    let u := State.reset.setExtents (⟨true, 3, 13, 13, .readOnly, 0⟩ :: List.replicate 15 Extent.initial)
    let w : Request := { request .write 512 with inService := false }
    let s := (withDrive .seeking).setQueue 3 [w]
    (s.req? 3 w.path w.tag = some w ∧ w.path ≠ .s ∧ w.inService = false ∧
      s.engine.holder ≠ some (.host 3 w.path w.tag)) ∧
    extentFails s u 3 w (w.next (s.geom 3)) .readOnly ∧
    (∀ code, ¬extentFails s u 3 { w with order := .read } (w.next (s.geom 3)) code) ∧
    (let r := request .write 512
     let c := inHand r (.write ⟨13, 0⟩ [7]) true
     c.req? 3 r.path r.tag = some r ∧ r.inService = true ∧ c.engine.holder = some (.host 3 r.path r.tag) ∧
       c.engine.phase = .running ∧ c.engine.current = some ⟨block5, ⟨13, 0, 5⟩⟩ ∧
       c.engine.hand = some ⟨3, ⟨13, 0, 5⟩, .write ⟨13, 0⟩ [7], true⟩ ∧ extentFails c u 3 r (block5 + 1) .readOnly) := by
  intro u w s
  have inU : (⟨true, 3, 13, 13, .readOnly, 0⟩ : Extent) ∈ u.extents := List.mem_cons_self
  have noFence : ∀ e ∈ u.extents, e.cls ≠ .fenced := by decide +kernel
  refine ⟨by decide +kernel, ?_, ?_, ?_⟩
  · refine ⟨by decide, by decide +kernel, .inr ⟨rfl, ?_, rfl, ⟨_, ⟨inU, ?_⟩, rfl, .inl rfl⟩⟩⟩
    · rintro ⟨e, h, hc, -⟩; exact noFence e h.1 hc
    · decide +kernel
  · rintro code ⟨-, -, ⟨-, e, h, hc, -⟩ | ⟨-, -, ho, -⟩⟩
    · exact noFence e h.1 hc
    · exact absurd ho (by decide)
  · refine ⟨by decide +kernel, by decide, by decide +kernel, by decide +kernel, by decide +kernel, by decide +kernel, ?_⟩
    refine ⟨by decide, by decide +kernel, .inr ⟨rfl, ?_, rfl, ⟨_, ⟨inU, ?_⟩, rfl, .inl rfl⟩⟩⟩
    · rintro ⟨e, h, hc, -⟩; exact noFence e h.1 hc
    · decide +kernel

/-- The READ-ONLY entry on cylinder 13 of drive 3 fails a WRITE in service with no sector in hand: connected at either
mark check or draining, candidate, recalled, SEEKING and RECALIBRATING before a reseek. -/
theorem witness_LoadIsTakenWholeOrNotAtAll_noHand :
    let w := request .write 512
    let at' (st : DriveState) (m : Monitor → Monitor) (e : Engine) : State := (onMon (serving st w) m).setEngine e
    (∀ s ∈ [connected w id, onMon (connected w id) fun m => { m with markCheck := .reseek },
        connected w fun e => { e with phase := .draining, current := none },
        at' .orienting id (Engine.freeWith [.host 3 .a 1]), at' .orienting id (held .recalling),
        at' .seeking id (Engine.freeWith []),
        at' .recalibrating (fun m => { m with recal := .reseek }) (Engine.freeWith [])],
      s.queue 3 = [w] ∧ w.path ≠ .s ∧ w.inService = true ∧ s.engine.hand = none ∧ s.geom 3 = geo ∧ s.group .a = 0) ∧
    ∀ s u : State, s.geom 3 = geo → s.group .a = 0 → (⟨true, 3, 13, 13, .readOnly, 0⟩ : Extent) ∈ u.extents →
      (∀ e ∈ u.extents, e.cls ≠ .fenced) → extentFails s u 3 w (w.next (s.geom 3)) .readOnly := by
  refine ⟨by decide +kernel, fun s u hg hp inU noFence => ?_⟩
  rw [extentFails, hg]
  refine ⟨by decide, by decide +kernel, .inr ⟨rfl, ?_, rfl, ⟨_, ⟨inU, ?_⟩, rfl, .inl rfl⟩⟩⟩
  · rintro ⟨e, h, hc, -⟩; exact noFence e h.1 hc
  · decide +kernel

/-- The whole load of that entry on the WRITE waiting for its first sector: the request ends READ ONLY on its connection,
and the mark check stands as it was (R158; log entry 57). -/
theorem test_extents_load_keeps_the_mark_check :
    ∀ c ∈ [MarkCheck.pending, .reseek],
      let s := onMon (connected (request .write 512) id) fun m => { m with markCheck := c }
      let t := (s.setExtents (⟨true, 3, 13, 13, .readOnly, 0⟩ :: List.replicate 15 Extent.initial)).retestAll
      (t.monOf 3).state = .ready ∧ (t.monOf 3).markCheck = c ∧ t.queue 3 = [] ∧
        (t.port .a).out = [.ending (s.unfinished 3 (request .write 512) .readOnly)] := by decide +kernel

theorem witness_TakenBlockIsDone :
    (let s := connected (request .read 512) fun e => { e with slot1 := ⟨.full, block5, [7]⟩ }
     (s.port .a).link = .connected ∧ s.engine.holder = some (.host 3 .a 1) ∧ s.engine.phase = .running ∧
       s.req? 3 .a 1 = some (request .read 512) ∧ s.engine.slot1.st = .full ∧ s.engine.slot2.st = .empty) ∧
    (let s := connected (request .read 512) fun e =>
       { e with phase := .draining, current := none, slot1 := ⟨.full, 1671, [7]⟩ }
     (s.port .a).link = .connected ∧ s.engine.holder = some (.host 3 .a 1) ∧ s.engine.phase = .draining ∧
       s.engine.drain = .finish ∧ s.queue 3 = [request .read 512] ∧ s.engine.slot1.st = .full ∧
       s.engine.slot2.st = .empty) ∧
    (let s := connected (request .read 512) fun e =>
       { e with phase := .draining, drain := .carryOn, current := none, slot1 := ⟨.full, 1670, [7]⟩ }
     (s.port .a).link = .connected ∧ s.engine.holder = some (.host 3 .a 1) ∧ s.engine.phase = .draining ∧
       s.engine.drain = .carryOn ∧ s.req? 3 .a 1 = some (request .read 512) ∧ s.engine.slot1.st = .full ∧
       s.engine.slot2.st = .empty) ∧
    (let s := connected (request .read 512) fun e =>
       { e with phase := .draining, drain := .fail .damaged ⟨none, ⟨13, 0, 7⟩, false⟩, slot1 := ⟨.full, 1670, [7]⟩ }
     (s.port .a).link = .connected ∧ s.engine.holder = some (.host 3 .a 1) ∧ s.engine.phase = .draining ∧
       s.engine.drain = .fail .damaged ⟨none, ⟨13, 0, 7⟩, false⟩ ∧ s.queue 3 = [request .read 512] ∧
       s.engine.slot1.st = .full ∧ s.engine.slot2.st = .empty) ∧
    (let s := connected (request .read 512) fun e =>
       { e with phase := .draining, slot1 := ⟨.full, 1670, [7]⟩, slot2 := ⟨.full, 1671, [8]⟩ }
     s.engine.phase = .draining ∧ s.engine.slot2.st = .full ∧ s.engine.slot1.st = .full ∧
       s.engine.slot1.block < s.engine.slot2.block ∧ s.req? 3 .a 1 = some (request .read 512)) ∧
    (let r := { request .read 100 with reserveIfClean := true }
     let s := (serving .transferring r).setGroup .a 15
     r.reserveIfClean = true ∧ r.outcome ≠ .recovered ∧ s.group .a ≠ 0 ∧ s.reservedBy 3 = none ∧
       1671 = r.last (s.geom 3)) := by decide +kernel

/-- An ending of tag 1 going out on path A, with this record there and a note of step 2. -/
def ending (c : Code) (held : Option Condition) : State :=
  (State.reset.setPort .a { State.reset.port .a with
    link := .sending, out := [.ending ⟨some 1, c, false, false, some 3, 0, none, none⟩]
    condition := ⟨held, 255⟩ }).setNotes [⟨.a, 1, 2, 9, none⟩]

theorem witness_EndingSentFreesTheTagAndIsCaptured :
    (∀ c ∈ [Code.normal, .abandoned, .dataCheck], ∀ h ∈ [none, some (⟨none, .busy, none, none, 0, 0⟩ : Condition)],
      ((ending c h).port .a).link = .sending ∧
        ((ending c h).port .a).out = [.ending ⟨some 1, c, false, false, some 3, 0, none, none⟩] ∧
        ((ending c h).port .a).condition.held = h) ∧
    (ending .dataCheck none).note? .a 1 = some ⟨.a, 1, 2, 9, none⟩ := by decide +kernel

theorem witness_OrderFrameTakesAFreeLink :
    ((holding State.reset .a []).port .a).link ≠ .free ∧ (State.reset.port .a).link = .free ∧
      (∀ d t, State.reset.engine.holder ≠ some (.host d .a t)) ∧
    (let r := request .read 512
     let s := (orienting r 3).setEngine (Engine.freeWith [.host 5 .a 2, .host 3 .a 1])
     (s.port .a).link = .free ∧ s.engine.candidates.filter (fun w => w.drive = 3) = [.host 3 .a 1] ∧
       s.serving 3 = some r ∧ r.missCount + 1 < s.policy.stallLimit) := by decide +kernel

/-- The raw sets of the manual's worked case of section 9.4.1 keep one member for a kind and drive. -/
theorem witness_PortFramesGoOutInOrder :
    (let s := State.reset.setPort .b { State.reset.port .b with
       endings := [⟨some 2, .normal, false, false, some 3, 1, none, none⟩] }
     (s.port .b).link = .free ∧ (s.port .b).endings ≠ []) ∧
    (let s := (State.reset.raiseAll ⟨.driveFault, 5, .fault .seek⟩).raiseAll ⟨.room, 1, .none⟩
     (∀ p ∈ allPaths, (s.port p).raw.Pairwise fun a b => ¬(a.kind = b.kind ∧ a.drive = b.drive)) ∧
       (s.port .b).link = .free ∧ (s.port .b).endings = [] ∧
       (⟨.driveFault, 5, .fault .seek⟩ : Notice) ∈ (s.port .b).raw ∧
       NoticeKind.driveFault.inMask (s.port .b).mask = true ∧
       ∀ m ∈ (s.port .b).raw, m.kind.inMask (s.port .b).mask = true →
         NoticeKind.driveFault.number < m.kind.number ∨ (NoticeKind.driveFault = m.kind ∧ 5 ≤ m.drive)) := by
  decide +kernel

/-- The last block of drive 3's host range, (195, 3, 31), and a frame of every queued order. -/
theorem witness_AcceptanceIsEveryCheckPassed :
    (∀ c ∈ [0x01, 0x02, 0x03, 0x04, 0x05, 0x06, 0x07],
      let f := frame c 0x01 3 [0, 195, 3, 31, 0, 1, 2, 0]
      f.length = 16 ∧ byteAt f 0 = 1 ∧ frameDrive f = some 3 ∧ frameFlagsClear f = true) ∧
    rowOf (frame 0x01 0x01 3 [0, 195, 3, 31, 0, 1, 2, 0]) = .queued .read ∧
    (withDrive .ready).acceptance .a 3 .read (frame 0x01 0x01 3 [0, 195, 3, 31, 0, 1, 2, 0]) = none ∧
    (withDrive .ready).acceptance .a 3 .read (frame 0x01 0x01 3 [0, 195, 3, 31, 0, 2, 2, 0]) = some .outsideVolume := by
  decide +kernel

/-- The decoder's turn falls on path A with this frame. -/
def takesFrom (s : State) (p : Path) (f : List Byte) : Prop := (holding s p f).takes [p] p f

/-- A READ frame too short to have a drive byte is refused BAD ORDER and names no drive, and no tag without the byte of
the tag (R165, Table 9-4); with the drive byte it names that drive. -/
theorem test_short_frame_names_no_drive :
    (∀ x ∈ [(([0x01, 0x01] : List Byte), (none : Option Tag), (none : Option Drive)), ([0x01, 0x01, 0x01], some 1, none),
        ([0x01, 0x01, 0x01, 0x03], some 1, some 3)],
      nextIs (.read [.a]) (holding (withDrive .ready) .a x.1) (fun t =>
        (t.port .a).out == [.ending ⟨x.2.1, .badOrder, true, false, x.2.2, 0, none, none⟩]) = true) := by
  decide +kernel

/-- An order for an OFFLINE drive, which fails NOT READY and no check before it; one whose drive byte is 8, and two whose
frames end before the drive byte. -/
theorem witness_RefusedOrderLeavesNoTrace :
    (∀ f ∈ [frame 0x01 0x01 8 [0, 13, 0, 5, 0, 3, 2, 0], [0x01, 0x01, 0x01], [0x01, 0x01]],
      takesFrom State.reset .a f ∧ rowOf f = .queued .read ∧ frameDrive f = none) ∧
    (badOrder .a readFrame = false ∧ frameDirect readFrame = false ∧
      ((withDrive .offline).port .a).tags.get (frameTag readFrame) = .free ∧
      ((withDrive .offline).monOf 3).state = .offline) ∧
    takesFrom (withDrive .offline) .a readFrame ∧ rowOf readFrame = .queued .read ∧ frameDrive readFrame = some 3 ∧
      readFrame.length = 16 ∧ (holding (withDrive .offline) .a readFrame).acceptance .a 3 .read readFrame =
        some .notReady := by
  unfold takesFrom State.takes; decide +kernel

/-- A READ while a scan pass is a candidate on the drive; a RECALIBRATE of a READY drive. -/
theorem witness_AcceptedOrderJoinsItsQueue :
    (let s := (scannable .orienting).setScan 3 ⟨30, .candidate, []⟩
     takesFrom s .a readFrame ∧ rowOf readFrame = .queued .read ∧ frameDrive readFrame = some 3 ∧
       (holding s .a readFrame).acceptance .a 3 .read readFrame = none) ∧
    (let f := frame 0x07 0x01 3 []
     takesFrom (withDrive .ready) .a f ∧ rowOf f = .queued .recalibrate ∧
       (holding (withDrive .ready) .a f).acceptance .a 3 .recalibrate f = none ∧
       ((withDrive .ready).monOf 3).state ≠ .offline ∧ ((withDrive .ready).monOf 3).state ≠ .faulted) := by
  unfold takesFrom State.takes; decide +kernel

/-- A READ that finds a scan pass seeking, recalibrating after a mark mismatch, a candidate, and in its revolution. -/
theorem witness_AcceptedOrderJoinsItsQueue_phases :
    ∀ x ∈ [(DriveState.seeking, ScanPhase.seeking), (.recalibrating, .seeking), (.orienting, .candidate),
        (.transferring, .pass)],
      let s := ((scannable x.1).setScan 3 ⟨30, x.2, []⟩).setEngine
        (if x.2 = .pass then (scanning .none).engine else Engine.freeWith [.scan 3])
      (takesFrom s .a readFrame ∧ (holding s .a readFrame).acceptance .a 3 .read readFrame = none ∧
        (s.scanOf 3).phase = x.2 ∧ (s.monOf 3).state = x.1 ∧
        (x.2 = .pass → s.engine.holder = some (.scan 3))) := by
  unfold takesFrom State.takes; decide +kernel

/-- A FAULTED drive with its fault line low, and high; an OFFLINE one. -/
theorem witness_RecalibrateClearsAFault :
    let f := frame 0x07 0x01 3 []
    ∀ s ∈ [withDrive .faulted, (withDrive .faulted).setSide 3 { DriveSide.initial with faultLine := true },
        withDrive .offline],
      (takesFrom s .a f ∧ rowOf f = .queued .recalibrate ∧ frameDrive f = some 3 ∧
        (holding s .a f).acceptance .a 3 .recalibrate f = none ∧ (s.scanOf 3).phase = .none) := by
  unfold takesFrom State.takes; decide +kernel

/-- The arrival of a RECALIBRATE begun from READY, and from FAULTED. -/
theorem witness_RecalibrateClearsAFault_arrival :
    ∀ c ∈ [Recal.order, .orderFaulted],
      let s := onMon (serving .recalibrating (request .recalibrate 0)) fun m => { m with recal := c }
      ((s.monOf 3).state = .recalibrating ∧ (s.monOf 3).recal = c ∧ s.serving 3 = some (request .recalibrate 0) ∧
        s.engine.holder ≠ some (.host 3 .a 1)) := by decide +kernel

/-- A plain immediate order that the decoder takes from this path. -/
def plainTaken (s : State) (p : Path) (f : List Byte) (code : Nat) : Prop :=
  takesFrom s p f ∧ f.length = 16 ∧ byteAt f 0 = 1 ∧ byteAt f 1 = code ∧ frameDirect f = false

/-- Path A moves to group 15, from 0 and from group 3 whose last member it is; it has a tag in use; S names 0. -/
theorem witness_SetGroupMovesThePath :
    let f := frame 0x10 0 0 [0, 0, 0, 0, 0, 0, 0, 0, 15]
    plainTaken State.reset .a f 0x10 ∧ byteAt f 12 ≤ 15 ∧
    (plainTaken (State.reset.setGroup .a 3) .a f 0x10 ∧ (State.reset.setGroup .a 3).group .a ≠ 0 ∧
      ∀ q ∈ [Path.b, .c, .d], (State.reset.setGroup .a 3).group q ≠ 3) ∧
    (plainTaken (linked State.reset .free) .a f 0x10 ∧ ((linked State.reset .free).port .a).tags.get 1 ≠ .free) ∧
    plainTaken State.reset .s (frame 0x10 0 0 []) 0x10 ∧ byteAt (frame 0x10 0 0 []) 12 = 0 := by
  unfold plainTaken takesFrom State.takes; decide +kernel

theorem witness_NoticeOrdersActOnTheirPath :
    plainTaken State.reset .a (frame 0x11 0 0 []) 0x11 ∧ plainTaken State.reset .s (frame 0x12 0 0 []) 0x12 := by
  unfold plainTaken takesFrom State.takes; decide +kernel

theorem witness_ReportConditionEmptiesTheRecord :
    plainTaken State.reset .a (frame 0x13 0 0 []) 0x13 ∧ (State.reset.port .a).condition.held = none := by
  unfold plainTaken takesFrom State.takes; decide +kernel

/-- The last entry of every table, and one past it (the ladder's 16 steps, and 17). -/
theorem witness_FetchSendsTheEntriesAsTheyStand :
    let fetched (x : Nat × Nat × Nat) : Prop :=
      let f := frame 0x14 0 0 [0, 0, 0, 0, 0, 0, 0, 0, u8 x.1, u8 x.2.1, 0, u8 x.2.2]
      plainTaken State.reset .a f 0x14 ∧ byteAt f 12 = x.1 ∧ 1 ≤ x.1 ∧ x.1 ≤ 8
    (∀ x ∈ ([(1, 7, 1), (2, 3, 1), (3, 7, 1), (4, 15, 1)] : List (Nat × Nat × Nat)), fetched x) ∧
    (∀ x ∈ ([(5, 1, 16), (6, 0, 1), (7, 15, 1), (8, 7, 1)] : List (Nat × Nat × Nat)), fetched x) ∧
    (∀ x ∈ ([(1, 7, 2), (2, 3, 2), (3, 7, 2), (4, 15, 2)] : List (Nat × Nat × Nat)), fetched x) ∧
    (∀ x ∈ ([(5, 1, 17), (6, 0, 2), (7, 15, 2), (8, 7, 2)] : List (Nat × Nat × Nat)), fetched x) := by
  unfold plainTaken takesFrom State.takes
  refine ⟨?_, ?_, ?_, ?_⟩ <;> decide +kernel

theorem witness_LoadTableIsHandedOver :
    (∀ p ∈ [Path.s, .a], ∀ x ∈ ([1, 8] : List Byte),
      let f := frame 0x16 0 0 [0, 0, 0, 0, 0, 0, 0, 0, x, 0, 0, 1]
      (plainTaken State.reset p f 0x16 ∧ 1 ≤ byteAt f 12 ∧ byteAt f 12 ≤ 8)) ∧
    takesFrom State.reset .a (frame 0x1A 0 0 []) ∧ byteAt (frame 0x1A 0 0 []) 1 = 0x1A := by
  unfold plainTaken takesFrom State.takes; decide +kernel

/-- The last home of the host range and the first track past it; a home known; a full queue. -/
theorem witness_AssignAlternateQueuesTheHome :
    let f := frame 0x17 0 3 [0, 195, 3]
    let full := List.replicate 4 (⟨0, ⟨0, 0⟩, .watch⟩ : RelocEntry)
    (∀ s ∈ [withDrive .absent, withDrive .ready, beforeStart [⟨3, ⟨195, 3⟩, .watch⟩], beforeStart full],
      (plainTaken s .s f 0x17 ∧ frameDrive f = some 3 ∧ wordAt f 4 ≤ 1023 ∧ byteAt f 6 ≤ 15)) ∧
    (byteAt f 6 < geo.heads ∧ wordAt f 4 < geo.cyls - geo.spares) ∧
    plainTaken (withDrive .ready) .s (frame 0x17 0 3 [0, 196, 0]) 0x17 ∧
    ¬wordAt (frame 0x17 0 3 [0, 196, 0]) 4 < geo.cyls - geo.spares ∧ 4 ≤ (beforeStart full).relocQ.length := by
  unfold plainTaken takesFrom State.takes; decide +kernel

theorem witness_ForceReleaseFreesTheDrive :
    let f := frame 0x18 0 2 []
    let s := (State.reset.setGroup .b 3).setReserved 2 (some 3)
    plainTaken s .s f 0x18 ∧ frameDrive f = some 2 ∧ s.reservedBy 2 = some 3 ∧
      plainTaken State.reset .s f 0x18 ∧ State.reset.reservedBy 2 = none := by
  unfold plainTaken takesFrom State.takes; decide +kernel

/-- A request that waits, and one whose block is being written. -/
theorem witness_DirectorResetEndsEveryRequest :
    plainTaken (serving .transferring (request .write 512)) .s (frame 0x19 0 0 []) 0x19 ∧
    (let s := serving .seeking (request .write 512)
     s.req? 3 .a 1 = some (request .write 512) ∧ s.connected 3 .a 1 = false) ∧
    (let s := inHand (request .write 512) (.write ⟨13, 0⟩ [7]) true
     plainTaken s .s (frame 0x19 0 0 []) 0x19 ∧ s.engine.hand = some ⟨3, ⟨13, 0, 5⟩, .write ⟨13, 0⟩ [7], true⟩) := by
  unfold plainTaken takesFrom State.takes; decide +kernel

/-- The reset path's request in service on a drive SEEKING, RECALIBRATING after a mark mismatch and for its order, and
ORIENTING with its recall out; connected with no sector in hand, and with one; the end of that sector. -/
theorem witness_ResetPathClearsThePath :
    (∀ st ∈ [DriveState.seeking, .recalibrating, .orienting], ∀ c ∈ [Recal.reseek, .order],
      let r := request .read 512
      let s := (onMon (serving st r) fun m => { m with recal := c }).setEngine (held .recalling)
      (s.serving 3 = some r ∧ r.path = .a ∧ (s.monOf 3).state = st ∧ (s.monOf 3).recal = c ∧
        s.engine.holder = some (.host 3 .a r.tag))) ∧
    (let s := connected (request .read 512) id
     s.serving 3 = some (request .read 512) ∧ (s.monOf 3).state = .transferring ∧
       s.engine.holder = some (.host 3 .a 1) ∧ s.engine.hand = none) ∧
    (∀ op ∈ [HandOp.write ⟨13, 0⟩ [7], .firstRead],
      let s := inHand (request .write 512) op true
      let h : Hand := ⟨3, ⟨13, 0, 5⟩, op, true⟩
      (s.serving 3 = some (request .write 512) ∧ s.engine.holder = some (.host 3 .a 1) ∧ s.engine.hand ≠ none ∧
        (s.engine.stopping []).hand = some h ∧ (s.engine.stopping []).stop = .drop ∧ h.drive = 3)) := by
  decide +kernel

/-- Distances at a bound, one past it and past the last bound; the profile in range; the margins' ends. -/
theorem witness_AccessCostIsSeekPlusRotation :
    profile0 = [⟨1, 4⟩] ++ ⟨8, 6⟩ :: profile0.drop 2 ∧ (∀ y ∈ [(⟨1, 4⟩ : SeekPoint)], y.bound < 8) ∧
    ([⟨1, 4⟩] : List SeekPoint) = [] ++ [⟨1, 4⟩] ∧ (∀ y ∈ [(⟨1, 4⟩ : SeekPoint)], y.bound < 2) ∧
    (profile0.length ≤ 8 ∧ (∀ x ∈ profile0, 1 ≤ x.bound ∧ x.bound ≤ 1023 ∧ 1 ≤ x.time ∧ x.time ≤ 150) ∧
      profile0.Pairwise fun a b => a.bound < b.bound ∧ a.time ≤ b.time) := by decide +kernel

/-- The worked case of section 3.3.1, without an overdue entry; and one where the second entry is overdue. -/
theorem witness_SelectionTakesOverdueElseCheapest :
    (let q := selecting.queue 4
     let r : Request := ⟨.a, 0, .read, ⟨130, 2, 20⟩, 3, 512, false, false, 0, 0, false, false, 0, .none, false⟩
     q = q.take 2 ++ r :: q.drop 3 ∧ (∀ x ∈ q, x.inService = false) ∧
       (∀ x ∈ q.take 2 ++ q.drop 3, ¬(x.path = r.path ∧ x.tag = r.tag)) ∧ (∀ x ∈ q, x.age < 15) ∧
       (∀ x ∈ q.take 2, selecting.costOf 4 r < selecting.costOf 4 x) ∧
       (∀ x ∈ q.drop 3, selecting.costOf 4 r ≤ selecting.costOf 4 x) ∧ (selecting.monOf 4).state = .ready ∧
       selecting.reservedBy 4 = none) ∧
    (let r : Request := { request .read 512 with inService := false, age := 15 }
     let x : Request := { request .position 0 with inService := false, age := 14, tag := 0 }
     let s := (withDrive .ready).setQueue 3 [x, r]
     s.queue 3 = [x] ++ r :: [] ∧ 15 ≤ r.age ∧ ∀ y ∈ [x], y.age < 15) := by decide +kernel

/-- The worked case of section 8.5: C's RESERVE before B's WRITE; a RELEASE; an entry outside the holder group; a
RECALIBRATE, and a POSITION on the drive's cylinder and off it. -/
theorem witness_ReservationsAreServedAtSelection :
    let r : Request := { request .reserve 0 with path := .c, inService := false }
    let w : Request := { request .write 512 with path := .b, inService := false }
    let base := ((withDrive .ready).setGroup .c 5).setGroup .b 3
    (let s := base.setQueue 3 [r, w]
     (s.monOf 3).state = .ready ∧ s.serving 3 = none ∧ s.choose 3 = some r ∧ s.reservedBy 3 = none ∧
       s.group w.path ≠ s.group r.path) ∧
    (let x : Request := { r with order := .release }
     let s := (base.setQueue 3 [x]).setReserved 3 (some 5)
     s.serving 3 = none ∧ s.choose 3 = some x ∧ s.reservedBy 3 = some 5 ∧ s.group x.path = 5) ∧
    (let s := (base.setQueue 3 [w]).setReserved 3 (some 5)
     s.serving 3 = none ∧ s.choose 3 = some w ∧ s.reservedBy 3 = some 5 ∧ s.group w.path ≠ 5) ∧
    (∀ x ∈ [{ r with order := .recalibrate }, { r with order := .position, addr := ⟨13, 2, 0⟩ },
        { r with order := .position, addr := ⟨14, 0, 0⟩ }],
      let s := base.setQueue 3 [x, w]
      ((s.monOf 3).state = .ready ∧ s.serving 3 = none ∧ s.choose 3 = some x ∧ s.reservedBy 3 = none)) := by
  decide +kernel

/-- A watch list of 16 entries, the second the earliest of the lowest score. -/
def watch16 : List WatchEntry :=
  ⟨3, ⟨0, 0⟩, 9, false, false⟩ :: ⟨3, ⟨1, 0⟩, 2, false, false⟩ ::
    (List.range 14).map fun i => ⟨3, ⟨2 + i, 0⟩, 2, false, false⟩

/-- An entry one below the threshold; a list of 15 and of 16 without the track; auto-spare, a known home, a full
queue. -/
theorem witness_WeightReachesTheThreshold :
    (let s := (withDrive .ready).setWatch [⟨3, ⟨40, 1⟩, 23, false, false⟩]
     s.watch = [] ++ ⟨3, ⟨40, 1⟩, 23, false, false⟩ :: [] ∧ s.weighs 3 ⟨40, 1⟩ = true ∧
       s.policy.watchThreshold ≤ min 255 (23 + 1) ∧ s.homeOf 3 ⟨40, 1⟩ = some ⟨40, 1⟩ ∧ (s.geom 3).autoSpare = false) ∧
    (let s := ((withDrive .ready).setWatch (watch16.drop 1)).setGeom 3 { geo with autoSpare := true }
     s.watch.length < 16 ∧ (∀ x ∈ s.watch, ¬(x.drive = 3 ∧ x.track = ⟨40, 1⟩)) ∧ (s.geom 3).autoSpare = true ∧
       s.relocQ.length < 4) ∧
    (let s := (withDrive .ready).setWatch watch16
     s.watch = watch16.take 1 ++ ⟨3, ⟨1, 0⟩, 2, false, false⟩ :: watch16.drop 2 ∧ s.watch.length = 16 ∧
       (∀ y ∈ s.watch, ¬(y.drive = 3 ∧ y.track = ⟨40, 1⟩)) ∧
       (∀ y ∈ watch16.take 1, y.queued = false → 2 < y.score) ∧
       (∀ y ∈ watch16.drop 2, y.queued = false → 2 ≤ y.score)) ∧
    (withDrive .ready).weighs 3 ⟨199, 3⟩ = false := by decide +kernel

/-- A WATCH entry before the ORDER entry; a spare area used up; a full map. -/
theorem witness_RelocationStartTakesAnAlternate :
    (let s := beforeStart [⟨3, ⟨88, 2⟩, .watch⟩, ⟨3, ⟨40, 1⟩, .order⟩]
     s.buffer.owned = false ∧ s.relocQ = [⟨3, ⟨88, 2⟩, .watch⟩] ++ ⟨3, ⟨40, 1⟩, .order⟩ :: [] ∧
       (s.monOf 3).state = .ready ∧ s.queue 3 = [] ∧
       lowestFree s.map (s.geom 3) 3 = some ⟨197, 0⟩ ∧ s.map.length < 96) ∧
    (let s := (beforeStart [⟨3, ⟨40, 1⟩, .watch⟩]).setMap
       (geo.alternates.map fun t => ⟨3, t, .withdrawn⟩)
     lowestFree s.map (s.geom 3) 3 = none) ∧
    (let s := (beforeStart [⟨3, ⟨40, 1⟩, .watch⟩]).setMap (List.replicate 96 ⟨0, ⟨0, 0⟩, .withdrawn⟩)
     lowestFree s.map (s.geom 3) 3 ≠ none ∧ 96 ≤ s.map.length) ∧
    (let s := beforeStart [⟨5, ⟨2, 0⟩, .order⟩, ⟨5, ⟨1, 0⟩, .watch⟩, ⟨3, ⟨40, 1⟩, .watch⟩, ⟨3, ⟨41, 1⟩, .watch⟩]
     s.buffer.owned = false ∧ (s.monOf 3).state = .ready ∧ s.queue 3 = [] ∧ (s.monOf 5).state ≠ .ready ∧
       lowestFree s.map (s.geom 3) 3 = some ⟨197, 0⟩ ∧ s.map.length < 96) ∧
    ((State.reset.setBuffer { Buffer.free with owned := true }).buffer.owned = true) := by decide +kernel

/-- What every state at the end of a revolution meets. -/
def ended (s : State) (r : Reloc) : Prop := passEnded s 3 r

/-- A revolution with two failed sectors, and a whole one. -/
theorem witness_ReadPassRevolutionSetsTheBuffer :
    ∀ failed ∈ [[17, 22], []],
      let s := passAt .readPass .none (revolution failed) Buffer.free.blocks
      (ended s (reloc40 .readPass .none) ∧ s.trackWalk = none ∧ s.buffer.blocks.length = 32 ∧
        (s.engine.results.map (·.sec)).Nodup ∧ (∀ y ∈ s.engine.results, y.sec < 32) ∧
        s.ladder[0]? = some ⟨.none, .normal, 2⟩) := by
  unfold ended passEnded; decide +kernel

/-- The set emptied; a reread left; the next step; the last step's last reread; the pass offered, and held. -/
theorem witness_TrackWalkRevolutionAdvances :
    (let w : TrackWalk := ⟨3, ⟨40, 1⟩, [22], ladder0, 1, 2⟩
     let s := (passAt .readPass .none [] (buffer22 .failing)).setTrackWalk (some w)
     s.reloc = some (reloc40 .readPass .none) ∧ s.engine.holder = some (.reloc 3) ∧ s.engine.stop = .none ∧
       s.serving 3 = none ∧ (s.monOf 3).state = .transferring ∧ (s.monOf 3).sector ≠ 31 ∧
       (s.monOf 3).mismatch = 0 ∧ w.ladder[w.step - 1]? = some ⟨.none, .normal, 2⟩ ∧
       (Engine.freeWith [.reloc 3]).phase = .free ∧ (Engine.freeWith [.reloc 3]).candidates = [.reloc 3]) ∧
    ∀ x ∈ [(ReadOutcome.clean, 1, 1), (.uncorrectable, 1, 1), (.uncorrectable, 1, 0), (.uncorrectable, 6, 0)],
      let w : TrackWalk := ⟨3, ⟨40, 1⟩, [22], ladder0, x.2.1, x.2.2⟩
      let s := (passAt .readPass .none [⟨22, x.1, [0]⟩] (buffer22 .failing)).setTrackWalk (some w)
      (ended s (reloc40 .readPass .none) ∧ s.trackWalk = some w ∧
        (blockState (s.engine.results.foldl takeResult s.buffer.blocks) 22 = .failing ↔ x.1 = .uncorrectable) ∧
        (ladder0[w.step]? = none ↔ x.2.1 = 6)) := by
  unfold ended passEnded; decide +kernel

theorem witness_PassesStartOnAnIdleDrive :
    (let r := { reloc40 .held .none with holds := false }
     let s := (withDrive .ready).setReloc (some r)
     s.reloc = some r ∧ r.stage = .held ∧ (s.monOf r.drive).state = .ready ∧ s.queue r.drive = []) ∧
    (let s := scannable .ready
     (s.geom 3).scan = true ∧ (s.monOf 3).state = .ready ∧ s.queue 3 = [] ∧ (s.scanOf 3).phase = .none ∧
       s.policy.scanIdle ≤ (s.scanOf 3).idle ∧ s.reloc = none ∧ ∀ e ∈ s.relocQ, e.drive ≠ 3) ∧
    (State.reset.reloc = none ∧ (State.reset.geom 3).scan ≠ true) ∧
    (let r := { reloc40 .readPass .none with holds := false }
     let s := (withDrive .ready).setReloc (some r)
     s.reloc = some r ∧ r.stage = .readPass ∧ r.holds = false ∧ (s.monOf 3).state = .ready ∧ s.queue 3 = [] ∧
       (∀ b ∈ (s.setBuffer ⟨true, buffer22 .damaged⟩).buffer.blocks, b.st = .good ∨ b.st = .damaged) ∧
       ¬∀ b ∈ (s.setBuffer ⟨true, buffer22 .failing⟩).buffer.blocks, b.st = .good ∨ b.st = .damaged) := by
  decide +kernel

/-- A whole verify, and one that fails a sector in each round. -/
theorem witness_VerifyRevolutionDecidesTheCommit :
    (let s := passAt .commit .verify (revolution []) (buffer22 .good)
     ended s (reloc40 .commit .verify) ∧ s.engine.results.length = 32 ∧
       ∀ y ∈ s.engine.results, blockState s.buffer.blocks y.sec = .good ∧ y.outcome = .clean) ∧
    (let s := passAt .commit .verify (revolution [31]) (buffer22 .good)
     ended s (reloc40 .commit .verify) ∧ (reloc40 .commit .verify).round = .first ∧
       lowestFree (s.map.map (MapRec.withdraw 3)) (s.geom 3) 3 = some ⟨197, 1⟩ ∧ s.map.length < 96) ∧
    (let r := { reloc40 .commit .verify with round := .second }
     ended ((passAt .commit .verify (revolution [0]) (buffer22 .good)).setReloc (some r)) r) := by
  unfold ended passEnded; decide +kernel

/-- A wholly clean pass, and one with a failure, on (12, 3): with no record the next track (13, 0) is not skipped; with
the first of map3's it is; with all of them (13, 1) is too, and (13, 2) is not (section 7.7.2). -/
theorem witness_CompletedScanIsScored :
    (∀ n ∈ [0, 1, 2], let map := map3.take (if n = 2 then 4 else n)
      n < geo.cyls * geo.heads ∧ (∀ k ∈ List.range n, skipped map geo 3 (Nat.repeat geo.nextTrack (k + 1) ⟨12, 3⟩) = true) ∧
        Nat.repeat geo.nextTrack (n + 1) ⟨12, 3⟩ = ⟨13, n⟩ ∧ skipped map geo 3 ⟨13, n⟩ = false) ∧
    ∀ results ∈ [List.replicate 32 ReadOutcome.clean, .damaged :: List.replicate 31 .clean],
      let s := (((scannable .transferring).setMap (map3.take 1)).setScan 3 ⟨31, .pass, results⟩).setEngine
        { Engine.freeWith [] with holder := some (.scan 3), phase := .pass, begun := 32 }
      (s.engine.holder = some (.scan 3) ∧ s.engine.hand = none ∧ s.engine.stop = .none ∧
        (s.scanOf 3).results.length = 32) := by
  decide +kernel

/-- The state after reset meets each invariant, and a step from it answers a next state. -/
theorem witness_StepKeepsTheMapInOrder :
    State.reset.MapSound ∧ State.reset.RelocSound ∧ ∃ t, step State.reset = .next t :=
  ⟨by unfold State.MapSound; decide +kernel, ⟨by decide +kernel, fun _ h => nomatch h⟩, _, rfl⟩

theorem witness_StepKeepsTheListsBounded :
    State.reset.ListsSound ∧ ∃ t, step State.reset = .next t :=
  ⟨by unfold State.ListsSound; decide +kernel, _, rfl⟩

theorem witness_StepKeepsNoticesGroupsAndCounters :
    ((∀ p ∈ allPaths, (State.reset.port p).raw = []) ∧ (∀ p ∈ allPaths, State.reset.group p = 0)) ∧
      State.reset.CountersSound ∧ ((∀ d, State.reset.queue d = []) ∧ (∀ d, State.reset.reservedBy d = none) ∧
        ∀ p ∈ allPaths, (State.reset.port p).endingTags = []) ∧ ∃ t, step State.reset = .next t :=
  ⟨by decide +kernel, by unfold State.CountersSound; decide +kernel, by decide +kernel, _, rfl⟩

theorem witness_StepKeepsTheTablesValid :
    ((∀ d, (State.reset.geom d).Sound) ∧ State.reset.policy.Sound) ∧ ∃ t, step State.reset = .next t :=
  ⟨by unfold Geometry.Sound Policy.Sound; decide +kernel, _, rfl⟩

/-- Every item at its highest value. -/
theorem witness_TableEntriesReadBack :
    (⟨true, 1024, 16, 16, 3, true, true⟩ : Geometry).Sound ∧ ProfileSound profile0 ∧
      (⟨true, 7, 1023, 1023, .fenced, 15⟩ : Extent).Sound ∧ (⟨255, 8, 3, 31, 15, 255, 255⟩ : Policy).Sound := by
  unfold Geometry.Sound ProfileSound Extent.Sound Policy.Sound; decide +kernel

end Sys2Proof.Tests
end

section
/-! PROOFS. Block checking and read recovery (chapter 5): the correction of a located burst (R93), the capture of an ending (R108), REPORT CONDITION (R109), and the revolution of the read pass (R121, R122). -/

namespace Sys2Proof.BlockChecking
open Sys2Proof.Machine

/-! ## The correction of a burst (R93) -/

/-- The mask bit of bit `j` of a byte, counted from the most significant, is bit `7 - j` of the word and no other. -/
theorem getLsbD_shifted_top_bit :
    ∀ j < 8, ∀ k < 8, ((0x80 : Byte) >>> j).getLsbD (7 - k) = decide (k = j) := by
  decide

/-- A mask gathered from single bits has exactly the bits that were let in, beside those it began with. -/
theorem getLsbD_foldl_top_bits (p : Nat → Prop) [DecidablePred p] (js : List Nat) (m : Byte) (k : Nat) (hk : k < 8)
    (hjs : ∀ j ∈ js, j < 8) :
    (js.foldl (fun m j => if p j then m ||| (0x80 : Byte) >>> j else m) m).getLsbD (7 - k) =
      (m.getLsbD (7 - k) || decide (k ∈ js ∧ p k)) := by
  induction js generalizing m with
  | nil => simp
  | cons j js ih =>
    rw [List.foldl_cons, ih _ fun i hi => hjs i (List.mem_cons_of_mem _ hi)]
    by_cases hp : p j
    · rw [if_pos hp, BitVec.getLsbD_or, getLsbD_shifted_top_bit j (hjs j (by simp)) k hk]
      by_cases hkj : k = j
      · subst hkj; simp [hp]
      · simp [hkj]
    · rw [if_neg hp]
      by_cases hkj : k = j
      · subst hkj; simp [hp]
      · simp [hkj]

/-- The mask of byte `i` has the bits of the burst and no others. -/
theorem getLsbD_burstMask (start len i k : Nat) (hk : k < 8) :
    (burstMask start len i).getLsbD (7 - k) = decide (start ≤ 8 * i + k ∧ 8 * i + k < start + len) := by
  unfold burstMask
  rw [getLsbD_foldl_top_bits (fun k => start ≤ 8 * i + k ∧ 8 * i + k < start + len) _ _ k hk (by simp)]
  simp [hk]

/-- Each byte takes the mask of its own place. -/
theorem getElem?_invertFrom (start len n i : Nat) (bs : List Byte) :
    (invertFrom start len n bs)[i]? = bs[i]?.map (· ^^^ burstMask start len (n + i)) := by
  induction bs generalizing n i with
  | nil => simp [invertFrom]
  | cons b bs ih =>
    cases i with
    | zero => simp [invertFrom]
    | succ i => simp [invertFrom, ih, Nat.add_right_comm n 1 i, Nat.add_assoc]

/-- A block with a located burst is given with the burst's bits inverted (R93). -/
theorem readBytes_of_burst {y : Yield} {start len : Nat} (h : y.check = .burst start len) :
    readBytes y = invertFrom start len 0 (block512 y.data) := by
  unfold readBytes
  rw [h]

/-- Settles O25: the byte is masked at its place, and the mask has exactly the burst's bits. -/
theorem correctionInvertsTheBurst : Obligations.CorrectionInvertsTheBurst := by
  intro y start len i k b b' hy hk hb hb'
  rw [readBytes_of_burst hy, getElem?_invertFrom, hb, Option.map_some, Option.some.injEq] at hb'
  rw [← hb', BitVec.getLsbD_xor, Nat.zero_add, getLsbD_burstMask start len i k hk]

/-! ## Path ports written more than once -/

/-- Of two writes to one path's place the last stays. -/
@[simp] theorem pathSet_pathSet {α : Type} (v : PerPath α) (p : Path) (x y : α) :
    (v.set p x).set p y = v.set p y := by
  cases p <;> rfl

/-- Of two writes to one port the last stays. -/
@[simp] theorem setPort_setPort (s : State) (p : Path) (x y : Port) :
    (s.setPort p x).setPort p y = s.setPort p y := by
  simp [State.setPort]

/-! ## REPORT CONDITION (R109) -/

/-- The row of an order frame of code 13H. -/
theorem rowOf_reportCondition {f : List Byte} (h : PlainOrder f 0x13) : rowOf f = .reportCondition := by
  obtain ⟨-, -, hcode, -⟩ := h
  simp [rowOf, hcode]

/-- A decoder's turn that falls on an order of its row carries the order out, with the host path noted. -/
theorem decoderTurn_of_takes {s : State} {ended : List Path} {p : Path} {f : List Byte} {row : OrderRow}
    (ht : s.takes ended p f) (hr : rowOf f = row) (k : State → Path → List Byte → State) :
    s.decoderTurn row ended k = k (s.noteTaken p) p f := by
  obtain ⟨ha, rfl⟩ := ht
  simp [State.decoderTurn, ha, hr]

/-- The decoder notes the path it took last, and changes nothing else (R162). -/
theorem noteTaken_eq (s : State) (p : Path) : s.noteTaken p = { s with lastHost := s.lastAfter p } := by
  unfold State.noteTaken State.lastAfter
  split <;> rfl

/-- A plain REPORT CONDITION passes both checks, on every path (R163). -/
theorem firstChecks_reportCondition {p : Path} {f : List Byte} (h : PlainOrder f 0x13) : firstChecks p f = none := by
  have hrow := rowOf_reportCondition h
  obtain ⟨hlen, htype, -, hdirect⟩ := h
  have hshape : frameShape f = true := by
    have h0 : f.getD 0 0 = 0x01 := BitVec.eq_of_toNat_eq htype
    rw [frameShape, hlen, h0]
    rfl
  simp [firstChecks, badOrder, notPermitted, hshape, driveBad, fieldsBad, flagsBad, serviceOnly, hrow, hdirect]

/-- The ending of a REPORT CONDITION that was carried out names no drive (R107). -/
theorem answerOf_reportCondition {f : List Byte} (h : rowOf f = .reportCondition) :
    answerOf f .normal false none = ⟨none, .normal, false, false, none, 0, none, none⟩ := by
  simp [answerOf, namedDrive, h]

/-- An address, present or not, takes four bytes. -/
theorem length_optAddrBytes (x : Option Addr) : (optAddrBytes x).length = 4 := by
  cases x <;> rfl

/-- A condition record takes twenty bytes, HELD or EMPTY (Table 9-11). -/
theorem length_conditionBytes (c : ConditionRecord) : c.bytes.length = 20 := by
  unfold ConditionRecord.bytes
  cases c.held with
  | none => rfl
  | some h => simp [length_optAddrBytes]

/-- An EMPTY condition record is twenty zeros (Table 9-11). -/
theorem conditionBytes_of_empty {c : ConditionRecord} (h : c.held = none) : c.bytes = List.replicate 20 0 := by
  unfold ConditionRecord.bytes
  rw [h]

/-- Settles O39: the order passes its checks, and the answer goes out over the emptied record. -/
theorem reportConditionEmptiesTheRecord : Obligations.ReportConditionEmptiesTheRecord := by
  intro s ended p f ht hf
  have hrow := rowOf_reportCondition hf
  refine ⟨length_conditionBytes _, conditionBytes_of_empty, ?_⟩
  have hturn : exec (.reportCondition ended) s = .next ((s.noteTaken p).immediate p f fun s =>
      (s.setPort p { s.port p with condition := ConditionRecord.empty }).send p
        [.data (s.port p).condition.bytes, .ending (answerOf f .normal false none)]) :=
    congrArg Host.Outcome.next (decoderTurn_of_takes ht hrow _)
  rw [hturn, State.immediate, firstChecks_reportCondition hf, answerOf_reportCondition hrow, noteTaken_eq]
  simp only [State.send, setPort_setPort, State.setPort_port_same]
  rfl


/-! ## The ending of a queued order that has gone out (R94, R108, R159, R160) -/

/-- The state after a queued order's ending frame: the port's link and tag slot FREE, nothing going out, this condition
record, and the request's note gone. -/
def afterEnding (s : State) (p : Path) (t : Tag) (c : ConditionRecord) : State :=
  { s with
    ports := s.ports.set p { s.port p with
      link := .free, out := [], tags := (s.port p).tags.set t .free, condition := c }
    notes := s.notes.filter fun n => ¬(n.path = p ∧ n.tag = t) }

@[simp] theorem afterEnding_port_same (s : State) (p : Path) (t : Tag) (c : ConditionRecord) :
    (afterEnding s p t c).port p = { s.port p with
      link := .free, out := [], tags := (s.port p).tags.set t .free, condition := c } :=
  PerPath.get_set_same _ _ _

theorem afterEnding_port_other (s : State) (p q : Path) (t : Tag) (c : ConditionRecord) (h : q ≠ p) :
    (afterEnding s p t c).port q = s.port q :=
  PerPath.get_set_other _ _ _ _ h

/-- A capture writes the condition record of its port, and nothing else (R108). -/
theorem capture_eq (s : State) (p : Path) (e : Ending) :
    s.capture p e = s.setPort p { s.port p with condition := ((s.capture p e).port p).condition } := by
  unfold State.capture
  split
  · cases p <;> rfl
  · simp only [State.setPort_port_same]

/-- The frame that is going out plays no part in a capture. -/
theorem capture_condition_setOut (s : State) (p : Path) (e : Ending) (fs : List Frame) :
    (((s.setPort p { s.port p with out := fs }).capture p e).port p).condition =
      ((s.capture p e).port p).condition := by
  rw [State.capture_condition, State.capture_condition]
  simp only [State.setPort_port_same]
  rfl

/-- A note leaves before or after a link becomes FREE. -/
theorem freeLink_dropNote (s : State) (p q : Path) (t : Tag) :
    (s.dropNote p t).freeLink q = (s.freeLink q).dropNote p t := rfl

/-- After the capture, a queued order's tag slot is FREE and its note goes (R94, R159). -/
theorem endingGone_of_queued (s : State) (p : Path) {e : Ending} {t : Tag} (ht : e.tag = some t)
    (hr : e.refusal = false) :
    s.endingGone p e = ((s.capture p e).setTag p t .free).dropNote p t := by
  simp [State.endingGone, ht, hr]

/-- The ending of a queued order that goes out on a SENDING link as the last frame: its path, tag, note and condition
record are as `afterEnding` says (R94, R108, R159, R160). -/
theorem exec_frameSent_queuedEnding {s : State} {p : Path} {e : Ending} {t : Tag} (hl : (s.port p).link = .sending)
    (ho : (s.port p).out = [.ending e]) (ht : e.tag = some t) (hr : e.refusal = false) :
    exec (.frameSent p false) s =
      .next (afterEnding s p t ((s.capture p e).port p).condition).settle := by
  have hgone : exec (.frameSent p false) s =
      .next (((s.setPort p { s.port p with out := [] }).endingGone p e).freeLink p).settle := by
    simp [exec, execFrameSent, hl, State.outGone, ho, Frame.isRecall, State.frameGone]
  have hafter : ((s.setPort p { s.port p with out := [] }).endingGone p e).freeLink p =
      afterEnding s p t ((s.capture p e).port p).condition := by
    have hc := capture_eq (s.setPort p { s.port p with out := [] }) p e
    rw [capture_condition_setOut, setPort_setPort, State.setPort_port_same] at hc
    rw [endingGone_of_queued _ p ht hr, hc, freeLink_dropNote]
    simp only [State.setTag, State.freeLink, setPort_setPort, State.setPort_port_same]
    rfl
  rw [hgone, hafter]

/-- Settles O30: the state is `afterEnding`, and its condition record is what the capture of the ending leaves. -/
theorem endingSentFreesTheTagAndIsCaptured : Obligations.EndingSentFreesTheTagAndIsCaptured := by
  intro s p e t hl ho ht hr
  have hcap := State.capture_condition s p e
  refine ⟨_, exec_frameSent_queuedEnding hl ho ht hr, ?_⟩
  rw [afterEnding_port_same]
  refine ⟨rfl, rfl, rfl, rfl, fun h => ?_, fun hn ha hheld => ?_, fun hn ha hheld => ?_, rfl,
    fun q hq => afterEnding_port_other s p q t _ hq⟩
  · rw [if_pos h] at hcap
    exact hcap
  · simp only [hn, ha, or_self, if_false, hheld, hr, Bool.false_eq_true, ht, Option.bind_some] at hcap
    rw [hcap]
    refine ⟨rfl, fun n hnote => ?_, fun hnote => ?_⟩ <;> simp [hnote]
  · obtain ⟨c, hc⟩ := Option.ne_none_iff_exists'.1 hheld
    simp only [hn, ha, or_self, if_false, hc] at hcap
    simp [hcap, hc, sat255, Nat.min_comm]

/-! ## Results of a revolution meet the buffer (R121, R122) -/

/-- A block's state is read from its own place alone. -/
theorem blockState_congr {bs cs : List BufBlock} {i : Nat} (h : bs[i]? = cs[i]?) :
    blockState bs i = blockState cs i := by
  simp [blockState, h]

/-- A sector's result leaves every other block as it is. -/
theorem takeResult_other (bs : List BufBlock) (y : PassResult) {i : Nat} (h : y.sec ≠ i) :
    (takeResult bs y)[i]? = bs[i]? := by
  unfold takeResult
  split
  · rfl
  · exact List.getElem?_set_ne h

/-- A GOOD block stays as it is, whatever its sector's result (R121). -/
theorem takeResult_of_good {bs : List BufBlock} (y : PassResult) {i : Nat} (h : blockState bs i = .good) :
    (takeResult bs y)[i]? = bs[i]? := by
  by_cases hy : y.sec = i
  · rw [takeResult, hy, if_pos h]
  · exact takeResult_other bs y hy

/-- A sector's result sets a block that is not GOOD (R121). -/
theorem takeResult_same {bs : List BufBlock} {y : PassResult} (hn : blockState bs y.sec ≠ .good)
    (hl : y.sec < bs.length) : (takeResult bs y)[y.sec]? = some ⟨blockAfter y.outcome, y.bytes⟩ := by
  rw [takeResult, if_neg hn]
  exact List.getElem?_set_self hl

@[simp] theorem length_takeResult (bs : List BufBlock) (y : PassResult) :
    (takeResult bs y).length = bs.length := by
  unfold takeResult setBlock
  split <;> simp

/-- A block of whose sector there is no result stays as it is. -/
theorem takeResults_unread (ys : List PassResult) (bs : List BufBlock) {i : Nat} (h : ∀ y ∈ ys, y.sec ≠ i) :
    (ys.foldl takeResult bs)[i]? = bs[i]? := by
  induction ys generalizing bs with
  | nil => rfl
  | cons y ys ih =>
    rw [List.foldl_cons, ih _ fun z hz => h z (List.mem_cons_of_mem _ hz)]
    exact takeResult_other bs y (h y (by simp))

/-- A GOOD block stays as it is through the results of a revolution (R121). -/
theorem takeResults_of_good (ys : List PassResult) {bs : List BufBlock} {i : Nat} (h : blockState bs i = .good) :
    (ys.foldl takeResult bs)[i]? = bs[i]? := by
  induction ys generalizing bs with
  | nil => rfl
  | cons y ys ih =>
    have hy := takeResult_of_good y h
    rw [List.foldl_cons, ih (by rw [blockState_congr hy, h]), hy]

/-- With one result for each sector at most, a block that is not GOOD is set by the result of its sector (R121). -/
theorem takeResults_of_mem {ys : List PassResult} {bs : List BufBlock} {y : PassResult}
    (hd : (ys.map (·.sec)).Nodup) (hy : y ∈ ys) (hl : y.sec < bs.length) (hn : blockState bs y.sec ≠ .good) :
    (ys.foldl takeResult bs)[y.sec]? = some ⟨blockAfter y.outcome, y.bytes⟩ := by
  induction ys generalizing bs with
  | nil => cases hy
  | cons z zs ih =>
    obtain ⟨hz, hzs⟩ := List.nodup_cons.1 hd
    have hne : ∀ w ∈ zs, w.sec ≠ z.sec := fun w hw he => hz (List.mem_map.2 ⟨w, hw, he⟩)
    rw [List.foldl_cons]
    rcases List.mem_cons.1 hy with rfl | hy
    · rw [takeResults_unread zs _ hne, takeResult_same hn hl]
    · have hsame : (takeResult bs z)[y.sec]? = bs[y.sec]? := takeResult_other bs z (hne y hy).symm
      exact ih hzs hy (by simpa using hl) (by rwa [blockState_congr hsame])

/-- The failing set holds the FAILING sectors of the 32 (R122). -/
theorem mem_failingSet (bs : List BufBlock) (i : Nat) :
    i ∈ failingSet bs ↔ i < 32 ∧ blockState bs i = .failing := by
  simp [failingSet]

/-- The failing set is empty when no sector of the 32 is FAILING. -/
theorem failingSet_isEmpty_iff (bs : List BufBlock) :
    (failingSet bs).isEmpty = true ↔ ∀ i, i < 32 → blockState bs i ≠ .failing := by
  rw [List.isEmpty_iff, List.eq_nil_iff_forall_not_mem]
  simp only [mem_failingSet, not_and, ne_eq]

/-! ## The pass leaves the engine (R72) -/

/-- The engine released from the drive that its holder works on: FREE, with the other drives' candidates (R88). -/
theorem clearEngineOf_engine_of_holder {s : State} {d : Drive} {w : Work} (h : s.engine.holder = some w)
    (hw : w.drive = d) :
    (s.clearEngineOf d).engine = Engine.freeWith (s.engine.candidates.filter (·.drive ≠ d)) := by
  have hon : s.engineOn d = true := by simp [State.engineOn, h, hw]
  simp [State.clearEngineOf, hon]

/-- A pass that is over has released the engine (R72). -/
theorem passOver_engine {s : State} {d : Drive} {w : Work} (h : s.engine.holder = some w) (hw : w.drive = d) :
    (s.passOver d).engine = Engine.freeWith (s.engine.candidates.filter (·.drive ≠ d)) :=
  (State.enterReady_engine _ d).trans (clearEngineOf_engine_of_holder h hw)

/-- A pass that is over has given its drive back (R72). -/
theorem passOver_state (s : State) (d : Drive) : ((s.passOver d).monOf d).state = .ready := by
  simp [State.passOver, State.enterReady, State.setDriveState, State.cmdCentre, State.cmdSettings]

/-- Work offered is a candidate. -/
theorem mem_candidates_offer (s : State) (w : Work) : w ∈ (s.offer w).engine.candidates := by
  rw [State.offer_engine]
  split
  · assumption
  · simp

/-- An offer leaves the engine's holder and phase as they are. -/
@[simp] theorem offer_holder (s : State) (w : Work) : (s.offer w).engine.holder = s.engine.holder := by
  rw [State.offer_engine]; split <;> rfl

@[simp] theorem offer_phase (s : State) (w : Work) : (s.offer w).engine.phase = s.engine.phase := by
  rw [State.offer_engine]; split <;> rfl

/-- A pass offered again has released the engine, and its drive waits for it ORIENTING (R72). -/
theorem offerAgain_waits {s : State} {d : Drive} {w : Work} (h : s.engine.holder = some w) (hw : w.drive = d) :
    ((s.offerAgain d).monOf d).state = .orienting ∧ Work.reloc d ∈ (s.offerAgain d).engine.candidates ∧
      (s.offerAgain d).engine.holder = none := by
  refine ⟨?_, mem_candidates_offer _ _, ?_⟩
  · simp [State.offerAgain, State.monOf, State.setDriveState, State.setMon]
  · rw [State.offerAgain, offer_holder, State.setDriveState, State.setMon_engine,
      clearEngineOf_engine_of_holder h hw]
    rfl

/-! ## The COMMIT begins at the end of the read pass (R122, R125) -/

/-- The seek that relocation control asks for selects the track's head (R12). -/
theorem seekForReloc_head (s : State) (d : Drive) (t : Track) : ((s.seekForReloc d t).monOf d).head = t.head := by
  have hask : (((s.clearIdle d).askSeek d t).monOf d).head = t.head := by
    unfold State.askSeek
    dsimp only
    split <;> simp [State.cmdHead, State.setDriveState, State.cmdSeek]
  unfold State.seekForReloc
  dsimp only
  split
  · simpa [State.monOf] using hask
  · exact hask

/-- The seek that relocation control asks for leaves the engine's holder as it is. -/
theorem seekForReloc_holder (s : State) (d : Drive) (t : Track) :
    (s.seekForReloc d t).engine.holder = s.engine.holder := by
  unfold State.seekForReloc
  dsimp only
  split <;> simp

/-- The seek that relocation control asks for leaves the engine's phase as it is. -/
theorem seekForReloc_phase (s : State) (d : Drive) (t : Track) :
    (s.seekForReloc d t).engine.phase = s.engine.phase := by
  unfold State.seekForReloc
  dsimp only
  split <;> simp

/-- The COMMIT of a HELD relocation begins on a READY drive with an empty queue (R125). -/
theorem beginCommit_of_idle {s : State} {r : Reloc} (hr : s.reloc = some r) (hs : r.stage = .held)
    (hst : (s.monOf r.drive).state = .ready) (hq : s.queue r.drive = []) :
    s.beginCommit = (s.setReloc (some { r with stage := .commit, rev := .none, holds := true })).seekForReloc
      r.drive r.alternate := by
  simp [State.beginCommit, hr, hs, State.readyEmpty, hst, hq]

/-- No COMMIT begins on a drive whose queue is not empty (R125). -/
theorem beginCommit_of_queued {s : State} {r : Reloc} (hr : s.reloc = some r) (hq : s.queue r.drive ≠ []) :
    s.beginCommit = s := by
  simp [State.beginCommit, hr, State.readyEmpty, hq]

/-- A HELD relocation on a READY drive, its pass and its walk over, goes on as the read pass's end says: it stays HELD
behind a queue, and is at its COMMIT at once without one (R122, R125). -/
theorem readPassOver_beginCommit {s v : State} {r : Reloc}
    (hreloc : v.reloc = some { r with stage := .held, rev := .none, holds := false })
    (hstate : (v.monOf r.drive).state = .ready) (hqueue : v.queue r.drive = s.queue r.drive)
    (hholder : v.engine.holder = none) (hphase : v.engine.phase = .free) (hwalk : v.trackWalk = none) :
    readPassOver s v.beginCommit r.drive r := by
  by_cases hq : s.queue r.drive = []
  · have hbegin := beginCommit_of_idle hreloc rfl hstate (hqueue.trans hq)
    refine ⟨(State.beginCommit_trackWalk v).trans hwalk, ?_, ?_, fun h => absurd hq h, fun _ => ⟨?_, ?_⟩⟩
    · rw [hbegin, seekForReloc_holder, State.setReloc_engine, hholder]
    · rw [hbegin, seekForReloc_phase, State.setReloc_engine, hphase]
    · rw [hbegin, State.seekForReloc_reloc, State.setReloc_reloc]
    · rw [hbegin]; exact seekForReloc_head _ _ _
  · have hbegin : v.beginCommit = v := beginCommit_of_queued hreloc (by rwa [hqueue])
    rw [hbegin]
    exact ⟨hwalk, hholder, hphase, fun _ => ⟨hreloc, hstate⟩, fun h => absurd h hq⟩

/-- A complete read pass of which no track walk is left is over (R122). -/
theorem readPassOver_readComplete {s : State} {r : Reloc} (hw : s.trackWalk = none)
    (hh : s.engine.holder = some (.reloc r.drive)) : readPassOver s (s.readComplete r) r.drive r := by
  have hengine (x : Option Reloc) := passOver_engine (s := s.setReloc x) (d := r.drive) hh rfl
  refine readPassOver_beginCommit ?_ (passOver_state _ _) ?_ ?_ ?_ ?_
  · simp [State.passOver]
  · simp [State.passOver, State.queue]
  · rw [hengine]; rfl
  · rw [hengine]; rfl
  · simp [State.passOver, hw]

/-! ## The track walk begins (R103) -/

/-- The settings of a ladder's step are put on the drive (R103). -/
theorem issueStep_sideOf {s : State} {d : Drive} {l : List LadderStep} {n : Nat} {x : LadderStep}
    (h : stepAt l n = some x) :
    (s.issueStep d l n false).sideOf d = { s.sideOf d with offset := x.offset, strobe := x.strobe } := by
  simp [State.issueStep, h, State.cmdSettings]

/-- A pass offered again keeps what stands on the string port's side. -/
theorem offerAgain_side (s : State) (d : Drive) : (s.offerAgain d).side = s.side := by
  simp [State.offerAgain]

/-- The walk begins at step 1 of the ladder, over this failing set and with the step's rereads (R103). -/
theorem startTrackWalk_trackWalk {s : State} {x : LadderStep} (h : s.ladder[0]? = some x) (r : Reloc)
    (failing : List Nat) :
    (s.startTrackWalk r failing).trackWalk = some ⟨r.drive, r.source, failing, s.ladder, 1, x.rereads⟩ := by
  simp [State.startTrackWalk, State.offerAgain, stepAt, h]

/-- The walk begins with the settings of step 1 (R103). -/
theorem startTrackWalk_sideOf {s : State} {x : LadderStep} (h : s.ladder[0]? = some x) (r : Reloc)
    (failing : List Nat) :
    (s.startTrackWalk r failing).sideOf r.drive =
      { s.sideOf r.drive with offset := x.offset, strobe := x.strobe } := by
  unfold State.startTrackWalk State.sideOf
  rw [offerAgain_side]
  exact issueStep_sideOf h

/-- At the walk's beginning the pass is offered again. -/
theorem startTrackWalk_waits {s : State} {r : Reloc} (failing : List Nat)
    (hh : s.engine.holder = some (.reloc r.drive)) :
    ((s.startTrackWalk r failing).monOf r.drive).state = .orienting ∧
      Work.reloc r.drive ∈ (s.startTrackWalk r failing).engine.candidates ∧
      (s.startTrackWalk r failing).engine.holder = none :=
  offerAgain_waits (w := .reloc r.drive) (by simpa using hh) rfl

/-! ## The end of the read pass's revolution (R121, R122) -/

/-- The revolution that has ended is the relocation's own. -/
theorem relocRevolution_of_passEnded {s : State} {d : Drive} {r : Reloc} (h : passEnded s d r) :
    s.relocRevolution = some r := by
  obtain ⟨hholder, hreloc, hdrive, hhand, hstop, hbegun⟩ := h
  simp [State.relocRevolution, hholder, hreloc, hdrive, State.handFree, hhand, hstop, hbegun]

/-- The command carries out the end of a first revolution (R122). -/
theorem exec_readPassRevolutionEnd {s : State} {d : Drive} {r : Reloc} (h : passEnded s d r)
    (hs : r.stage = .readPass) (hw : s.trackWalk = none) :
    exec .readPassRevolutionEnd s = .next (s.readPassEnd r).settle := by
  simp [exec, execReadPassRevolutionEnd, relocRevolution_of_passEnded h, hs, hw]

/-- With no block FAILING the read pass is complete (R122). -/
theorem readPassEnd_of_none_failing {s : State} (r : Reloc)
    (h : ∀ i, i < 32 → blockState s.takeResults.buffer.blocks i ≠ .failing) :
    s.readPassEnd r = s.takeResults.readComplete r := by
  exact if_pos ((failingSet_isEmpty_iff _).2 h)

/-- With a block FAILING a track walk over the failing set begins (R103, R122). -/
theorem readPassEnd_of_failing {s : State} (r : Reloc)
    (h : ¬∀ i, i < 32 → blockState s.takeResults.buffer.blocks i ≠ .failing) :
    s.readPassEnd r = s.takeResults.startTrackWalk r (failingSet s.takeResults.buffer.blocks) := by
  exact if_neg (mt (failingSet_isEmpty_iff _).1 h)

/-- Completion and the walk's beginning leave the buffer, the map, the watch list, the ports and the queues. -/
theorem readPassEnd_frame (s : State) (r : Reloc) :
    (s.readPassEnd r).buffer = s.takeResults.buffer ∧ (s.readPassEnd r).map = s.map ∧
      (s.readPassEnd r).watch = s.watch ∧ (s.readPassEnd r).ports = s.ports ∧
      (s.readPassEnd r).queues = s.queues := by
  unfold State.readPassEnd
  dsimp only
  split
  · simp [State.readComplete, State.passOver, State.takeResults]
  · simp [State.startTrackWalk, State.offerAgain, State.takeResults]

/-- Settles O51: the results meet the buffer block by block, and the failing set decides what follows. -/
theorem readPassRevolutionSetsTheBuffer : Obligations.ReadPassRevolutionSetsTheBuffer := by
  intro s d r x hend hstage hwalk hlen hnodup hsec hstep
  refine ⟨_, exec_readPassRevolutionEnd hend hstage hwalk, ?_⟩
  obtain ⟨hholder, -, rfl, -⟩ := hend
  obtain ⟨hbuffer, hframe⟩ := readPassEnd_frame s r
  rw [hbuffer]
  refine ⟨fun y hy hn => ?_, fun i hi => ?_, fun hfail => ?_, fun hnone => ?_, hframe⟩
  · refine (takeResults_of_mem hnodup hy (hlen ▸ hsec y hy) hn).trans ?_
    cases y.outcome <;> rfl
  · rcases hi with hgood | hunread
    · exact takeResults_of_good _ hgood
    · exact takeResults_unread _ _ hunread
  · obtain ⟨i, hi, hfailing⟩ := hfail
    rw [readPassEnd_of_failing r fun h => h i hi hfailing]
    refine ⟨⟨_, startTrackWalk_trackWalk (s := s.takeResults) hstep r _, rfl, rfl, rfl, rfl, rfl, mem_failingSet _⟩,
      startTrackWalk_sideOf (s := s.takeResults) hstep r _, ?_,
      startTrackWalk_waits (s := s.takeResults) _ hholder⟩
    simp [State.startTrackWalk, State.offerAgain, State.takeResults]
  · rw [readPassEnd_of_none_failing r hnone]
    exact readPassOver_readComplete (s := s.takeResults) hwalk hholder

end Sys2Proof.BlockChecking
end

section
/-! PROOFS. The watch list and the relocation queue (chapter 6): a weight and the eviction it may need (R113), the threshold test (R114), and ASSIGN ALTERNATE (R117). -/

namespace Sys2Proof.WatchList
open Sys2Proof.Machine Sys2Proof.BlockChecking

/-! ## Homes in the relocation queue -/

/-- A home is busy when a queue entry or the active relocation has it (R114, R117). -/
theorem homeBusy_iff (s : State) (d : Drive) (home : Track) :
    s.homeBusy d home = true ↔
      (∃ e ∈ s.relocQ, e.drive = d ∧ e.home = home) ∨
        ∃ r, s.reloc = some r ∧ r.drive = d ∧ r.home = home := by
  cases hr : s.reloc <;> simp [State.homeBusy, hr]

/-- The relocation queue has four places (R116). -/
theorem relocationCapacity_eq : Config.relocationCapacity = 4 := rfl

/-! ## ASSIGN ALTERNATE (R117, R163) -/

/-- The row of an order frame of code 17H. -/
theorem rowOf_assignAlternate {f : List Byte} (h : PlainOrder f 0x17) : rowOf f = .assignAlternate := by
  obtain ⟨-, -, hcode, -⟩ := h
  simp [rowOf, hcode]

/-- A plain order frame has the layout's length and type (Table 9-7). -/
theorem frameShape_of_plainOrder {f : List Byte} {code : Nat} (h : PlainOrder f code) : frameShape f = true := by
  obtain ⟨hlen, htype, -, -⟩ := h
  have htype : f.getD 0 0 = 0x01 := BitVec.eq_of_toNat_eq htype
  rw [frameShape, hlen, htype]
  rfl

/-- A plain ASSIGN ALTERNATE on S that names a drive and a track in range passes both checks (R163). -/
theorem firstChecks_assignAlternate {f : List Byte} {d : Drive} (h : PlainOrder f 0x17) (hd : frameDrive f = some d)
    (hcyl : wordAt f 4 ≤ 1023) (hhead : byteAt f 6 ≤ 15) : firstChecks .s f = none := by
  have hrow := rowOf_assignAlternate h
  have hshape := frameShape_of_plainOrder h
  have htrack : trackFieldsBad f = false := by simp [trackFieldsBad, hcyl, hhead]
  obtain ⟨-, -, -, hdirect⟩ := h
  simp [firstChecks, badOrder, notPermitted, hshape, driveBad, fieldsBad, flagsBad, hrow, hdirect, hd, htrack]

/-- The answer to an ASSIGN ALTERNATE names the drive and nothing else (R107). -/
theorem answerOf_assignAlternate {f : List Byte} {d : Drive} (hr : rowOf f = .assignAlternate)
    (hd : frameDrive f = some d) (c : Code) (refused : Bool) :
    answerOf f c refused none = ⟨none, c, refused, false, some d, 0, none, none⟩ := by
  cases refused <;> simp [answerOf, namedDrive, refusalTag, hr, hd]

/-- A plain ASSIGN ALTERNATE on S meets the tests of its operands, the drive before the track, and is carried out when
it passes them (R163). -/
theorem exec_assignAlternate {s : State} {ended : List Path} {f : List Byte} {d : Drive} (ht : s.takes ended .s f)
    (hf : PlainOrder f 0x17) (hd : frameDrive f = some d) (hcyl : wordAt f 4 ≤ 1023) (hhead : byteAt f 6 ≤ 15) :
    exec (.assignAlternate ended) s = .next
      (if (s.monOf d).state = .absent then s.refuse .s f .noDrive
      else if !(s.geom d).inHost ⟨wordAt f 4, byteAt f 6⟩ then s.refuse .s f .outsideVolume
      else s.doAssign .s f d) := by
  have hturn := decoderTurn_of_takes ht (rowOf_assignAlternate hf)
  have htaken : s.noteTaken .s = s := rfl
  simp [exec, execAssignAlternate, hturn, htaken, State.immediate, firstChecks_assignAlternate hf hd hcyl hhead, hd]

/-- Settles O42: past its checks the order is refused for its operands, or meets the relocation queue. -/
theorem assignAlternateQueuesTheHome : Obligations.AssignAlternateQueuesTheHome := by
  intro s ended f d ht hf hd hcyl hhead home inHost known answers
  have hanswer := answerOf_assignAlternate (rowOf_assignAlternate hf) hd
  have hhost : (s.geom d).inHost home = true ↔ inHost := by
    simp [Geometry.inHost, Geometry.hostCyls, inHost, home, and_comm]
  have hbusy : s.homeBusy d home = true ↔ known := homeBusy_iff s d home
  rw [exec_assignAlternate ht hf hd hcyl hhead]
  refine ⟨fun habsent => ?_, fun hpresent hout => ?_, fun hpresent hin hknown => ?_, fun hpresent hin hnew hfull => ?_,
    fun hpresent hin hnew hroom => ?_⟩
  · rw [if_pos habsent, State.refuse, hanswer]
    rfl
  · have hout : (s.geom d).inHost home = false := by rwa [← Bool.not_eq_true, hhost]
    rw [if_neg hpresent, if_pos (by simpa using hout), State.refuse, hanswer]
    rfl
  all_goals rw [if_neg hpresent, if_neg (by simpa using hhost.2 hin), State.doAssign]
  · rw [if_pos (hbusy.2 hknown), State.answer, hanswer]
    rfl
  · rw [if_neg (mt hbusy.1 hnew), if_pos (relocationCapacity_eq ▸ hfull), State.answer, hanswer]
    rfl
  · rw [if_neg (mt hbusy.1 hnew), if_neg (relocationCapacity_eq ▸ Nat.not_le_of_lt hroom), State.answer, hanswer]
    rfl

/-! ## The one entry of a track (R113) -/

/-- An entry names a track by its drive and its track. -/
theorem names_iff (e : WatchEntry) (d : Drive) (t : Track) : e.names d t = true ↔ e.drive = d ∧ e.track = t := by
  simp [WatchEntry.names]

/-- Between `pre` and `post`, which have no entry of the track, stands the track's entry `e`. -/
def OneEntry (d : Drive) (t : Track) (pre : List WatchEntry) (e : WatchEntry) (post : List WatchEntry) : Prop :=
  e.names d t = true ∧ ∀ x ∈ pre ++ post, x.names d t = false

section
variable {d : Drive} {t : Track} {pre post : List WatchEntry} {e : WatchEntry}

/-- The track's one entry is the entry that is found. -/
theorem OneEntry.find? (h : OneEntry d t pre e post) : (pre ++ e :: post).find? (·.names d t) = some e := by
  obtain ⟨he, hothers⟩ := h
  refine List.find?_eq_some_iff_append.2 ⟨he, pre, post, rfl, fun x hx => ?_⟩
  rw [hothers x (List.mem_append_left _ hx)]
  rfl

/-- A change of the track's entries changes its one entry and no other. -/
theorem OneEntry.map (h : OneEntry d t pre e post) (f : WatchEntry → WatchEntry) :
    (pre ++ e :: post).map (fun x => if x.names d t then f x else x) = pre ++ f e :: post := by
  obtain ⟨he, hothers⟩ := h
  have hsame : ∀ l : List WatchEntry, (∀ x ∈ l, x.names d t = false) →
      l.map (fun x => if x.names d t then f x else x) = l := fun l hl =>
    (List.map_congr_left fun x hx => by simp [hl x hx]).trans (List.map_id' l)
  rw [List.map_append, List.map_cons, hsame pre fun x hx => hothers x (List.mem_append_left _ hx),
    hsame post fun x hx => hothers x (List.mem_append_right _ hx), if_pos he]

/-- The track's one entry may change its score and its queued item. -/
theorem OneEntry.congr (h : OneEntry d t pre e post) {e' : WatchEntry} (hd : e'.drive = e.drive)
    (ht : e'.track = e.track) : OneEntry d t pre e' post := by
  obtain ⟨he, hothers⟩ := h
  refine ⟨?_, hothers⟩
  rwa [names_iff, hd, ht, ← names_iff]

/-- A new entry at the end of a list that has none of its track. -/
theorem oneEntry_new {l : List WatchEntry} (h : ∀ x ∈ l, x.names d t = false) (n : Nat) :
    OneEntry d t l ⟨d, t, n, false, false⟩ [] :=
  ⟨(names_iff _ d t).2 ⟨rfl, rfl⟩, by rwa [List.append_nil]⟩

end

/-! ## A weight is added to the list (R113) -/

/-- The lowest score is the least one of the entries not queued. -/
theorem lowestScore_eq_min? (l : List WatchEntry) :
    lowestScore l = ((l.filter fun e => !e.queued).map (·.score)).min? := by
  induction l with
  | nil => rfl
  | cons e es ih =>
    unfold lowestScore
    rw [ih]
    cases hq : e.queued
    · rw [List.filter_cons_of_pos (by simp [hq]), List.map_cons, List.min?_cons]
      cases ((es.filter fun e => !e.queued).map (·.score)).min? <;> rfl
    · rw [List.filter_cons_of_neg (by simp [hq])]
      cases ((es.filter fun e => !e.queued).map (·.score)).min? <;> rfl

/-- Eviction takes the earliest entry of the lowest score among those not queued (R113). -/
theorem evict_split {p q : List WatchEntry} {x : WatchEntry} (hx : x.queued = false)
    (hp : ∀ y ∈ p, y.queued = false → x.score < y.score) (hq : ∀ y ∈ q, y.queued = false → x.score ≤ y.score) :
    evict (p ++ x :: q) = p ++ q := by
  have hlow : lowestScore (p ++ x :: q) = some x.score := by
    rw [lowestScore_eq_min?, List.min?_eq_some_iff]
    constructor
    · exact List.mem_map.2 ⟨x, by simp [hx], rfl⟩
    · simp only [List.mem_map, List.mem_filter, List.mem_append, List.mem_cons, Bool.not_eq_true',
        forall_exists_index, and_imp]
      rintro _ y (hy | rfl | hy) hyq rfl
      · exact Nat.le_of_lt (hp y hy hyq)
      · exact Nat.le_refl _
      · exact hq y hy hyq
  rw [evict, hlow]
  refine dropFirst_split _ p x q (fun y hy => ?_) (by simp [hx])
  cases hyq : y.queued
  · simp [Nat.ne_of_gt (hp y hy hyq)]
  · simp

/-- The weight of a track that has an entry raises the entry's score, up to 255 (R113). -/
theorem addWeight_of_entry {d : Drive} {t : Track} {pre post : List WatchEntry} {e : WatchEntry}
    (h : OneEntry d t pre e post) (w : Nat) :
    addWeight (pre ++ e :: post) d t w = pre ++ { e with score := sat255 (e.score + w) } :: post := by
  have hany : (pre ++ e :: post).any (·.names d t) = true := List.any_eq_true.2 ⟨e, by simp, h.1⟩
  rw [addWeight, if_pos hany]
  exact h.map fun x => { x with score := sat255 (x.score + w) }

/-- The weight of a track without an entry makes one at the end of a list with room (R113). -/
theorem addWeight_of_room {d : Drive} {t : Track} {l : List WatchEntry} (h : ∀ x ∈ l, x.names d t = false)
    (hl : l.length < 16) (w : Nat) : addWeight l d t w = l ++ [⟨d, t, sat255 w, false, false⟩] := by
  have hroom : l.length < Config.watchCapacity := hl
  rw [addWeight, if_neg (by simpa using h)]
  simp only [if_pos hroom]

/-- In a full list the evicted entry makes room for the new one (R113). -/
theorem addWeight_of_full {d : Drive} {t : Track} {p q : List WatchEntry} {x : WatchEntry}
    (h : ∀ y ∈ p ++ x :: q, y.names d t = false) (hl : (p ++ x :: q).length = 16) (hx : x.queued = false)
    (hp : ∀ y ∈ p, y.queued = false → x.score < y.score) (hq : ∀ y ∈ q, y.queued = false → x.score ≤ y.score)
    (w : Nat) : addWeight (p ++ x :: q) d t w = p ++ q ++ [⟨d, t, sat255 w, false, false⟩] := by
  have hfull : ¬(p ++ x :: q).length < Config.watchCapacity := Nat.not_lt_of_le (Nat.le_of_eq hl.symm)
  have hroom : (p ++ q).length < Config.watchCapacity := by
    change (p ++ q).length < 16
    simp only [List.length_append, List.length_cons] at hl ⊢
    omega
  have hany : ¬(p ++ x :: q).any (·.names d t) = true := by
    rw [List.any_eq_true]
    rintro ⟨y, hy, hn⟩
    simp [h y hy] at hn
  rw [addWeight, if_neg hany]
  simp only [if_neg hfull, evict_split hx hp hq, if_pos hroom]

/-! ## The threshold test (R114) -/

/-- Raises to any paths change the ports and nothing else (R166). -/
theorem foldl_raise_eq (n : Notice) (ps : List Path) (s : State) :
    ps.foldl (fun s p => s.raise n p) s = { s with ports := (ps.foldl (fun s p => s.raise n p) s).ports } := by
  induction ps generalizing s with
  | nil => rfl
  | cons p ps ih => exact ih (s.raise n p)

theorem raiseAll_eq (s : State) (n : Notice) : s.raiseAll n = { s with ports := (s.raiseAll n).ports } :=
  foldl_raise_eq n allPaths s

section
variable {s : State} {d : Drive} {t : Track} {pre post : List WatchEntry} {e : WatchEntry}

/-- A report with weight adds it to the list, and the entry is tested (R113, R114). -/
theorem report_of_weight {w : Nat} (hw : w ≠ 0) (hweighs : s.weighs d t = true)
    (hadd : addWeight s.watch d t w = pre ++ e :: post) :
    s.report d t w = (s.setWatch (pre ++ e :: post)).thresholdTest d t := by
  simp [State.report, hw, hweighs, hadd]

/-- The queued item set on the track's one entry. -/
theorem setQueued_of_oneEntry (h : OneEntry d t pre e post) (hs : s.watch = pre ++ e :: post) :
    s.setQueued d t = s.setWatch (pre ++ { e with queued := true } :: post) := by
  rw [State.setQueued, hs, h.map fun x => { x with queued := true }]

/-- A test that is not met does nothing (R114). -/
theorem thresholdTest_of_not_met (h : OneEntry d t pre e post)
    (hnot : ¬(s.policy.watchThreshold ≤ e.score ∧ e.queued = false ∧ e.unrelocatable = false)) :
    (s.setWatch (pre ++ e :: post)).thresholdTest d t = s.setWatch (pre ++ e :: post) := by
  simp [State.thresholdTest, h.find?, hnot]

/-- A test that is met raises WATCH THRESHOLD with auto-spare disabled; otherwise it marks the entry of a busy home,
queues a home for which there is room, and leaves a full queue as it is (R114). -/
theorem thresholdTest_of_met {home : Track} (h : OneEntry d t pre e post)
    (hmet : s.policy.watchThreshold ≤ e.score ∧ e.queued = false ∧ e.unrelocatable = false)
    (hhome : s.homeOf d t = some home) :
    (s.setWatch (pre ++ e :: post)).thresholdTest d t =
      if (s.geom d).autoSpare then
        if s.homeBusy d home then s.setWatch (pre ++ { e with queued := true } :: post)
        else if s.relocQ.length < 4 then
          (s.setRelocQ (s.relocQ ++ [⟨d, home, .watch⟩])).setWatch (pre ++ { e with queued := true } :: post)
        else s.setWatch (pre ++ e :: post)
      else (s.setWatch (pre ++ e :: post)).raiseAll ⟨.watchThreshold, d, .watch t e.score⟩ := by
  have hhome : (s.setWatch (pre ++ e :: post)).homeOf d t = some home := hhome
  unfold State.thresholdTest
  simp only [State.setWatch_watch, h.find?, hhome]
  refine (if_pos (by simpa using hmet)).trans ?_
  rw [setQueued_of_oneEntry (s := s.setWatch _) h rfl,
    setQueued_of_oneEntry (s := (s.setWatch _).setRelocQ _) h rfl]
  rfl

end

/-- Settles O49: the weight leaves the track one entry in the list, and the test of that entry decides the rest. -/
theorem weightReachesTheThreshold : Obligations.WeightReachesTheThreshold := by
  intro s d t w names
  have hnames (x : WatchEntry) : x.names d t = false ↔ ¬names x := by rw [← Bool.not_eq_true, names_iff]
  refine ⟨fun hnone => ?_, ?_⟩
  · exact if_neg fun ⟨hw, hweighs⟩ => hnone.elim hw fun h => by simp [h] at hweighs
  intro pre e post hw hweighs hlist after tested
  obtain ⟨hadd, hone⟩ : addWeight s.watch d t w = pre ++ e :: post ∧ OneEntry d t pre e post := by
    simp only [← hnames] at hlist
    rw [Nat.min_comm 255 w] at hlist
    rcases hlist with ⟨e0, hs, he0, hothers, rfl⟩ | ⟨hl, hothers, rfl, rfl, rfl⟩ |
      ⟨p, x, q, hs, hl, hothers, hx, hp, hq, rfl, rfl, rfl⟩
    · have hone : OneEntry d t pre e0 post := ⟨(names_iff e0 d t).2 he0, hothers⟩
      rw [hs, addWeight_of_entry hone, Nat.min_comm]
      exact ⟨rfl, hone.congr rfl rfl⟩
    · exact ⟨addWeight_of_room hothers hl w, oneEntry_new hothers _⟩
    · rw [hs] at hl hothers ⊢
      refine ⟨addWeight_of_full hothers hl hx hp hq w, oneEntry_new (fun y hy => hothers y ?_) _⟩
      rw [List.mem_append] at hy ⊢
      exact hy.imp_right (List.mem_cons_of_mem x)
  rw [report_of_weight hw hweighs hadd]
  refine ⟨fun hnot => thresholdTest_of_not_met hone hnot, fun hmet home hhome => ?_⟩
  have hafter : after false = pre ++ e :: post := by
    obtain ⟨-, hqueued, -⟩ : s.policy.watchThreshold ≤ e.score ∧ e.queued = false ∧ e.unrelocatable = false := hmet
    simp only [after, ← hqueued]
  intro known
  have hbusy : s.homeBusy d home = true ↔ known := homeBusy_iff s d home
  rw [thresholdTest_of_met hone hmet hhome]
  refine ⟨fun hauto => ?_, fun hauto hknown => ?_, fun hauto hnew hroom => ?_, fun hauto hnew hfull => ?_⟩
  · rw [if_neg (by simpa using hauto), hafter]
    exact ⟨fun p => by simp [mem_addNotice], raiseAll_eq _ _⟩
  all_goals rw [if_pos hauto]
  · rw [if_pos (hbusy.2 hknown)]
    rfl
  · rw [if_neg (mt hbusy.1 hnew), if_pos hroom]
    rfl
  · rw [if_neg (mt hbusy.1 hnew), if_neg (Nat.not_lt_of_le hfull), hafter]
    rfl

end Sys2Proof.WatchList
end

section
/-! PROOFS. The media scan (chapter 7): the start of a pass (R136), the score of a completed pass (R140), the advance of the scan pointer (R141), and the completion (R137). -/

namespace Sys2Proof.MediaScan
open Sys2Proof.Machine Sys2Proof.BlockChecking Sys2Proof.WatchList

/-! ## Tables that stand through scan control -/

/-- The geometry entries are among the parts that stand. -/
theorem geom_of_standing {s u : State} (h : u.standing = s.standing) (d : Drive) : u.geom d = s.geom d := by
  rw [State.standing, State.standing, Prod.mk.injEq] at h
  exact congrArg (·.get d) h.1

/-- The policy is among the parts that stand. -/
theorem policy_of_standing {s u : State} (h : u.standing = s.standing) : u.policy = s.policy := by
  simp only [State.standing, Prod.mk.injEq] at h
  obtain ⟨-, -, -, -, hpolicy, -⟩ := h
  exact hpolicy

/-! ## The start of a pass (R136) -/

/-- The conditions of R136, read from the drive's state, its queue, its scan state and the relocation's records. -/
theorem scanReady_iff (s : State) (d : Drive) :
    s.scanReady d = true ↔ (s.geom d).scan = true ∧ ((s.monOf d).state = .ready ∧ s.queue d = []) ∧
      (s.scanOf d).phase = .none ∧ s.policy.scanIdle ≤ (s.scanOf d).idle ∧ (∀ r, s.reloc = some r → r.drive ≠ d) ∧
      (s.buffer.owned = true ∨ ∀ e ∈ s.relocQ, e.drive ≠ d) := by
  cases hr : s.reloc <;> cases hb : s.buffer.owned <;>
    simp [State.scanReady, State.relocWaits, State.readyEmpty, hr, hb, and_assoc]

/-- The seek of R12 selects the track's head; a drive on the track's cylinder is ORIENTING, and another SEEKING, its mark
check PENDING. -/
theorem askSeek_monOf (s : State) (d : Drive) (t : Track) :
    (s.askSeek d t).monOf d =
      if t.cyl = (s.monOf d).cylinder then { s.monOf d with head := t.head, state := .orienting }
      else { s.monOf d with
        head := t.head, state := .seeking, target := t.cyl, cylinder := t.cyl, seekTimer := 0, markCheck := .pending } := by
  simp only [State.askSeek, State.cmdHead, State.setMon_monOf_same]
  split <;> simp [State.setDriveState]

/-- The seek of R12 leaves a drive on the track's cylinder ORIENTING, and another SEEKING. -/
theorem askSeek_state (s : State) (d : Drive) (t : Track) :
    ((s.askSeek d t).monOf d).state = if t.cyl = (s.monOf d).cylinder then .orienting else .seeking := by
  rw [askSeek_monOf]
  split <;> rfl

/-- The seek of R12 leaves the scan pointer as it is. -/
theorem askSeek_pointer (s : State) (d : Drive) (t : Track) :
    ((s.askSeek d t).monOf d).pointer = (s.monOf d).pointer := by
  rw [askSeek_monOf]
  split <;> rfl

/-- The seek of R12 leaves the other drives' monitors as they are. -/
theorem askSeek_monOf_other {d e : Drive} (s : State) (t : Track) (h : e ≠ d) :
    (s.askSeek d t).monOf e = s.monOf e := by
  unfold State.askSeek
  dsimp only
  split <;> simp [State.cmdHead, State.setDriveState, State.cmdSeek, h]

/-- A pass that starts empties the results and is a candidate or SEEKING (R136). -/
theorem startScan_scanOf (s : State) (d : Drive) :
    (s.startScan d).scanOf d = ⟨(s.scanOf d).idle,
      (if (s.monOf d).pointer.cyl = (s.monOf d).cylinder then .candidate else .seeking), []⟩ := by
  unfold State.startScan
  dsimp only
  rw [askSeek_state, State.setScan_monOf]
  split <;> simp [State.scanOf, State.setScan]

/-- A pass that starts leaves the scan pointer where it is. -/
theorem startScan_pointer (s : State) (d : Drive) :
    ((s.startScan d).monOf d).pointer = (s.monOf d).pointer := by
  have hask := askSeek_pointer (s.setScan d { s.scanOf d with phase := .seeking, results := [] }) d (s.monOf d).pointer
  unfold State.startScan
  dsimp only
  split
  · simpa [State.monOf] using hask
  · exact hask

/-- A pass that starts leaves the other drives as they are. -/
theorem startScan_other {d e : Drive} (s : State) (h : e ≠ d) :
    (s.startScan d).monOf e = s.monOf e ∧ (s.startScan d).scanOf e = s.scanOf e := by
  have hask (x : ScanState) := askSeek_monOf_other (s.setScan d x) (s.monOf d).pointer h
  unfold State.startScan
  dsimp only
  split
  · exact ⟨by simpa [State.monOf] using hask _, by simp [State.scanOf, State.setScan, PerDrive.get_set_other, h]⟩
  · exact ⟨hask _, by simp [State.scanOf, State.setScan, PerDrive.get_set_other, h]⟩

/-- A pass that starts leaves the engine's holder and phase, the lists, the map, the ports and the queues. -/
theorem startScan_frame (s : State) (d : Drive) :
    (s.startScan d).engine.holder = s.engine.holder ∧ (s.startScan d).engine.phase = s.engine.phase ∧
      (s.startScan d).watch = s.watch ∧ (s.startScan d).relocQ = s.relocQ ∧ (s.startScan d).ports = s.ports ∧
      (s.startScan d).map = s.map ∧ (s.startScan d).queues = s.queues := by
  unfold State.startScan
  dsimp only
  split <;> simp

/-! ## The score (R140) -/

/-- The weight of a pass is the sum of its sectors' weights. -/
theorem passWeight_eq_sum (os : List ReadOutcome) : passWeight os = (os.map scanWeight).sum :=
  List.sum_eq_foldl.symm

/-- The track's entry is halved, and leaves the list at 0 (R140, R115). -/
theorem halveEntry_eq (l : List WatchEntry) (d : Drive) (t : Track) :
    halveEntry l d t =
      (l.map fun e => if e.drive = d ∧ e.track = t then { e with score := e.score / 2 } else e).filter
        fun e => ¬(e.drive = d ∧ e.track = t ∧ e.score = 0) := by
  unfold halveEntry
  simp only [names_iff]
  refine List.filter_congr fun e _ => ?_
  rw [Bool.eq_iff_iff]
  simp [WatchEntry.names, or_assoc]

/-- A wholly clean pass halves the track's entry (R140). -/
theorem scorePass_of_clean {s : State} {d : Drive} (h : ∀ o ∈ (s.scanOf d).results, o = .clean) :
    s.scorePass d = s.setWatch (halveEntry s.watch d (s.monOf d).pointer) :=
  if_pos (by simpa using h)

/-- A pass with another outcome is one report of its weight (R140). -/
theorem scorePass_of_not_clean {s : State} {d : Drive} (h : ¬∀ o ∈ (s.scanOf d).results, o = .clean) :
    s.scorePass d = s.report d (s.monOf d).pointer (passWeight (s.scanOf d).results) :=
  if_neg (by simpa using h)

/-- The score leaves the drives, the queues, the map and the engine as they are. -/
theorem scorePass_frame (s : State) (d : Drive) :
    (s.scorePass d).mon = s.mon ∧ (s.scorePass d).scans = s.scans ∧ (s.scorePass d).queues = s.queues ∧
      (s.scorePass d).map = s.map ∧ (s.scorePass d).engine = s.engine ∧ (s.scorePass d).reloc = s.reloc ∧
      (s.scorePass d).buffer = s.buffer := by
  unfold State.scorePass
  dsimp only
  split <;> simp

/-! ## The pointer (R141) -/

/-- From the `j`th track of a run of skipped tracks, enough steps take the advance to the first track that is not
skipped. -/
theorem advance_of_run {map : List MapRec} {g : Geometry} {d : Drive} {t : Track} {n : Nat}
    (hrun : ∀ k, k < n → skipped map g d (Nat.repeat g.nextTrack (k + 1) t) = true)
    (hend : skipped map g d (Nat.repeat g.nextTrack (n + 1) t) = false) (m j : Nat) (hj : j ≤ n) (hm : n < j + m) :
    advance map g d m (Nat.repeat g.nextTrack j t) = Nat.repeat g.nextTrack (n + 1) t := by
  induction m generalizing j with
  | zero => omega
  | succ m ih =>
    change (if skipped map g d (Nat.repeat g.nextTrack (j + 1) t) = true then
      advance map g d m (Nat.repeat g.nextTrack (j + 1) t) else Nat.repeat g.nextTrack (j + 1) t) = _
    rcases Nat.lt_or_eq_of_le hj with hlt | rfl
    · rw [if_pos (hrun j hlt)]
      exact ih (j + 1) hlt (by omega)
    · simp [hend]

/-! ## The completion (R137) -/

/-- The state of a completed pass, scored and its pointer advanced, that has given the engine and its drive back: the
next pass has not been tried. -/
def scanGivenBack (s : State) (d : Drive) : State :=
  let s1 := (s.scorePass d).advancePointer d
  (s1.setScan d { s1.scanOf d with phase := .none, results := [] }).passOver d

/-- The completion is the next pass's trial after the drive was given back (R137). -/
theorem completeScan_eq (s : State) (d : Drive) : s.completeScan d = (scanGivenBack s d).tryScan d := rfl

/-- The command completes a pass that has its 32 outcomes (R137). -/
theorem exec_scanPassComplete {s : State} {d : Drive} (hholder : s.engine.holder = some (.scan d))
    (hhand : s.engine.hand = none) (hstop : s.engine.stop = .none) (hlen : (s.scanOf d).results.length = 32) :
    exec (.scanPassComplete d) s = .next (s.completeScan d).settle := by
  simp [exec, execScanPassComplete, State.scanDone, State.handFree, hholder, hhand, hstop, hlen]

/-- The drive given back is READY, its pointer advanced over the map and geometry in force (R137, R141). -/
theorem scanGivenBack_monOf (s : State) (d : Drive) :
    ((scanGivenBack s d).monOf d).state = .ready ∧ ((scanGivenBack s d).monOf d).pointer =
      advance s.map (s.geom d) d ((s.geom d).cyls * (s.geom d).heads) (s.monOf d).pointer := by
  obtain ⟨hmon, -, -, hmap, -⟩ := scorePass_frame s d
  have hgeom := geom_of_standing (State.scorePass_standing s d) d
  refine ⟨passOver_state _ d, ?_⟩
  simp [scanGivenBack, State.passOver, State.enterReady, State.setDriveState, State.advancePointer, State.monOf,
    State.setMon, hmon, hmap, hgeom]

/-- The scan state of the drive given back: phase NONE and no results, the idle count kept (R137). -/
theorem scanGivenBack_scanOf (s : State) (d : Drive) :
    (scanGivenBack s d).scanOf d = ⟨(s.scanOf d).idle, .none, []⟩ := by
  obtain ⟨-, hscans, -⟩ := scorePass_frame s d
  simp [scanGivenBack, State.passOver, State.advancePointer, State.scanOf, State.setScan, hscans]

/-- The other drives keep their monitors and scan states through a completion. -/
theorem scanGivenBack_other {d e : Drive} (s : State) (h : e ≠ d) :
    (scanGivenBack s d).monOf e = s.monOf e ∧ (scanGivenBack s d).scanOf e = s.scanOf e := by
  obtain ⟨hmon, hscans, -⟩ := scorePass_frame s d
  constructor <;>
    simp [scanGivenBack, State.passOver, State.enterReady, State.setDriveState, State.advancePointer, State.monOf,
      State.setMon, State.scanOf, State.setScan, PerDrive.get_set_other, hmon, hscans, h]

/-- The pass has released the engine (R72). -/
theorem scanGivenBack_engine {s : State} {d : Drive} (h : s.engine.holder = some (.scan d)) :
    (scanGivenBack s d).engine.holder = none ∧ (scanGivenBack s d).engine.phase = .free := by
  obtain ⟨-, -, -, -, hengine, -⟩ := scorePass_frame s d
  have hholder : (s.scorePass d).engine.holder = some (.scan d) := hengine ▸ h
  have hover : (scanGivenBack s d).engine = Engine.freeWith _ := passOver_engine (w := .scan d) hholder rfl
  rw [hover]
  exact ⟨rfl, rfl⟩

/-- The lists and ports are those that the score left. -/
theorem scanGivenBack_lists (s : State) (d : Drive) :
    (scanGivenBack s d).watch = (s.scorePass d).watch ∧ (scanGivenBack s d).relocQ = (s.scorePass d).relocQ ∧
      (scanGivenBack s d).ports = (s.scorePass d).ports := by
  simp [scanGivenBack, State.passOver, State.advancePointer]

/-- The map, the queues, the relocation and its buffer stand through a completion. -/
theorem scanGivenBack_frame (s : State) (d : Drive) :
    (scanGivenBack s d).map = s.map ∧ (scanGivenBack s d).queues = s.queues ∧
      (scanGivenBack s d).reloc = s.reloc ∧ (scanGivenBack s d).buffer = s.buffer := by
  obtain ⟨-, -, hqueues, hmap, -, hreloc, hbuffer⟩ := scorePass_frame s d
  simp [scanGivenBack, State.passOver, State.advancePointer, hqueues, hmap, hreloc, hbuffer]

/-- The next pass starts in the same step where the drive's own conditions of R136 hold and no relocation waits for it
after the score. -/
theorem scanReady_scanGivenBack (s : State) (d : Drive) :
    (scanGivenBack s d).scanReady d = true ↔ (s.geom d).scan = true ∧ s.queue d = [] ∧
      s.policy.scanIdle ≤ (s.scanOf d).idle ∧ (∀ r, s.reloc = some r → r.drive ≠ d) ∧
      (s.buffer.owned = true ∨ ∀ e ∈ (s.scorePass d).relocQ, e.drive ≠ d) := by
  have hstanding : (scanGivenBack s d).standing = s.standing := by simp [scanGivenBack]
  obtain ⟨hready, -⟩ := scanGivenBack_monOf s d
  obtain ⟨-, hrelocQ, -⟩ := scanGivenBack_lists s d
  obtain ⟨-, hqueues, hreloc, hbuffer⟩ := scanGivenBack_frame s d
  rw [scanReady_iff, geom_of_standing hstanding, policy_of_standing hstanding, scanGivenBack_scanOf, hready, hrelocQ,
    hreloc, hbuffer, State.queue, hqueues]
  simp [State.queue]

/-- What the trial of the next pass leaves as the completion made it, whether or not the pass starts. -/
theorem tryScan_keeps {u : State} {d : Drive} (h : (u.scanOf d).results = []) :
    ((u.tryScan d).monOf d).pointer = (u.monOf d).pointer ∧ ((u.tryScan d).scanOf d).results = [] ∧
      ((u.tryScan d).scanOf d).idle = (u.scanOf d).idle ∧
      ∀ e, e ≠ d → (u.tryScan d).monOf e = u.monOf e ∧ (u.tryScan d).scanOf e = u.scanOf e := by
  unfold State.tryScan
  split
  · rw [startScan_scanOf]
    exact ⟨startScan_pointer u d, rfl, rfl, fun _ he => startScan_other u he⟩
  · exact ⟨rfl, h, rfl, fun _ _ => ⟨rfl, rfl⟩⟩

/-- The trial of the next pass leaves the engine's holder and phase, the lists, the map, the ports and the queues. -/
theorem tryScan_frame (u : State) (d : Drive) :
    (u.tryScan d).engine.holder = u.engine.holder ∧ (u.tryScan d).engine.phase = u.engine.phase ∧
      (u.tryScan d).watch = u.watch ∧ (u.tryScan d).relocQ = u.relocQ ∧ (u.tryScan d).ports = u.ports ∧
      (u.tryScan d).map = u.map ∧ (u.tryScan d).queues = u.queues := by
  unfold State.tryScan
  split
  · exact startScan_frame u d
  · simp

/-- Settles O55: the score decides the lists, a run of skipped tracks the pointer, and R136 whether the drive is given
back or sought for the next pass. -/
theorem completedScanIsScored : Obligations.CompletedScanIsScored := by
  intro s d hholder hhand hstop hlen g t next clean weight
  have hweight : weight = passWeight (s.scanOf d).results := by
    rw [passWeight_eq_sum]
    exact congrArg (fun f => ((s.scanOf d).results.map f).sum) (funext fun o => by cases o <;> rfl)
  obtain ⟨hready, hpointer⟩ := scanGivenBack_monOf s d
  have hscan := scanGivenBack_scanOf s d
  obtain ⟨hfree, hphase⟩ := scanGivenBack_engine hholder
  obtain ⟨hwatch, hrelocQ, hports⟩ := scanGivenBack_lists s d
  obtain ⟨hmap, hqueues, -⟩ := scanGivenBack_frame s d
  obtain ⟨kpointer, kresults, kidle, kother⟩ := tryScan_keeps (u := scanGivenBack s d) (d := d) (by rw [hscan])
  obtain ⟨kholder, kphase, kwatch, krelocQ, kports, kmap, kqueues⟩ := tryScan_frame (scanGivenBack s d) d
  refine ⟨_, exec_scanPassComplete hholder hhand hstop hlen, ?_⟩
  rw [completeScan_eq, kwatch, krelocQ, kports, kpointer, kholder, kphase, kresults, kidle, kmap, kqueues, hwatch,
    hrelocQ, hports, hpointer, hfree, hphase, hscan, hmap, hqueues]
  refine ⟨fun hclean => ?_, fun hdirty => ?_, fun n hn hrun hend => ?_, rfl, rfl, rfl, rfl, fun hnot => ?_,
    fun hclean hon hempty hidle hreloc hwaits => ?_, rfl, rfl, fun e he => ?_⟩
  · rw [scorePass_of_clean hclean]
    exact ⟨halveEntry_eq _ _ _, rfl, rfl⟩
  · rw [scorePass_of_not_clean hdirty, hweight]
    exact ⟨rfl, rfl, rfl⟩
  · exact advance_of_run hrun hend _ 0 (Nat.zero_le n) (by rwa [Nat.zero_add])
  · have hstay : ¬(scanGivenBack s d).scanReady d = true := by
      rw [scanReady_scanGivenBack]
      rintro ⟨hon, hempty, hidle, -⟩
      rcases hnot with hoff | hqueue | hlow
      · exact Bool.false_ne_true (hoff.symm.trans hon)
      · exact hqueue hempty
      · exact Nat.not_le_of_lt hlow hidle
    rw [State.tryScan, if_neg hstay]
    exact ⟨hready, by rw [hscan]⟩
  · have hstart : (scanGivenBack s d).scanReady d = true := by
      rw [scanReady_scanGivenBack, scorePass_of_clean hclean]
      exact ⟨hon, hempty, hidle, hreloc, hwaits⟩
    rw [State.tryScan, if_pos hstart, startScan_scanOf]
    dsimp only
    split <;> simp
  · obtain ⟨hmon, hscans⟩ := scanGivenBack_other s he
    obtain ⟨kmon, kscans⟩ := kother e he
    exact ⟨kmon.trans hmon, kscans.trans hscans⟩

end Sys2Proof.MediaScan
end

section
/-! PROOFS. Groups and reservations (chapter 8): the release of a drive (R147), FORCE RELEASE (R152), and SET GROUP with the group it leaves empty (R144, R145). -/

namespace Sys2Proof.PathGroups
open Sys2Proof.Machine Sys2Proof.BlockChecking Sys2Proof.WatchList

/-! ## What a release can change -/

/-- Writing back the value that a drive position has changes nothing. -/
theorem perDrive_set_of_get {α : Type} {v : PerDrive α} {d : Drive} {x : α} (h : v.get d = x) : v.set d x = v := by
  subst h
  match d with
  | 0 | 1 | 2 | 3 | 4 | 5 | 6 | 7 => rfl

/-- From `s` to `u` nothing changes but reservations and path ports. -/
def OnlyReleases (s u : State) : Prop := u = { s with reserved := u.reserved, ports := u.ports }

theorem OnlyReleases.refl (s : State) : OnlyReleases s s := rfl

theorem OnlyReleases.trans {s u v : State} (hu : OnlyReleases s u) (hv : OnlyReleases u v) : OnlyReleases s v :=
  Eq.trans hv (congrArg (fun w : State => { w with reserved := v.reserved, ports := v.ports }) hu)

theorem OnlyReleases.group {s u : State} (h : OnlyReleases s u) (q : Path) : u.group q = s.group q :=
  (congrArg (State.group · q) h :)

theorem OnlyReleases.foldl {α : Type} {f : State → α → State} (h : ∀ s x, OnlyReleases s (f s x)) (l : List α)
    (s : State) : OnlyReleases s (l.foldl f s) := by
  induction l generalizing s with
  | nil => exact .refl s
  | cons x xs ih => exact (h s x).trans (ih (f s x))

theorem onlyReleases_giveReleased (s : State) (d : Drive) (named : Bool) (p : Path) :
    OnlyReleases s (s.giveReleased d named p) := by
  unfold State.giveReleased
  split <;> rfl

theorem onlyReleases_releaseDrive (s : State) (d : Drive) (former : Option Nat) :
    OnlyReleases s (s.releaseDrive d former) :=
  have hfree : OnlyReleases s (s.setReserved d none) := rfl
  hfree.trans (.foldl (fun _ _ => onlyReleases_giveReleased _ _ _ _) allPaths _)

/-! ## The ports after a release (R147) -/

/-- The path is a member of the former holder group, where the release names one (R152). -/
def formerMember (s : State) (former : Option Nat) (q : Path) : Bool := former.any fun g => !s.outside q g

theorem formerMember_some_iff (s : State) (g : Nat) (q : Path) :
    formerMember s (some g) q = true ↔ q ≠ .s ∧ s.group q = g := by
  simp [formerMember, State.outside]

theorem formerMember_giveReleased (s : State) (former : Option Nat) (q : Path) (d : Drive) (named : Bool) (p : Path) :
    formerMember (s.giveReleased d named p) former q = formerMember s former q := by
  simp [formerMember, State.outside, (onlyReleases_giveReleased s d named p).group]

theorem releaseDrive_eq_foldl (s : State) (d : Drive) (former : Option Nat) :
    s.releaseDrive d former =
      allPaths.foldl (fun s p => s.giveReleased d (formerMember s former p) p) (s.setReserved d none) := by
  cases former <;> rfl

/-- A release writes the port of each path that is marked or named, and no other. -/
theorem releaseDrive_port (s : State) (d : Drive) (former : Option Nat) (q : Path) :
    (s.releaseDrive d former).port q =
      if (s.port q).awaitRelease.get d = true ∨ formerMember s former q = true then
        { s.port q with
          awaitRelease := (s.port q).awaitRelease.set d false
          raw := addNotice (s.port q).raw ⟨.released, d, .none⟩ }
      else s.port q := by
  have hfree : formerMember (s.setReserved d none) former q = formerMember s former q := rfl
  rw [releaseDrive_eq_foldl, ← hfree]
  simp only [allPaths, List.foldl]
  cases q <;> simp [State.giveReleased_port, formerMember_giveReleased]

/-- After a release no path awaits it any more. -/
theorem releaseDrive_awaitRelease (s : State) (d : Drive) (former : Option Nat) (q : Path) :
    ((s.releaseDrive d former).port q).awaitRelease = (s.port q).awaitRelease.set d false := by
  rw [releaseDrive_port]
  split
  · rfl
  · next hnot =>
    obtain ⟨hmark, -⟩ := not_or.1 hnot
    exact (perDrive_set_of_get (by simpa using hmark)).symm

/-- Of each port a release changes the raw set and the marks, and nothing else. -/
theorem releaseDrive_port_eq (s : State) (d : Drive) (former : Option Nat) (q : Path) :
    (s.releaseDrive d former).port q = { s.port q with
      raw := ((s.releaseDrive d former).port q).raw
      awaitRelease := ((s.releaseDrive d former).port q).awaitRelease } := by
  rw [releaseDrive_port]
  split <;> rfl

/-- RELEASED for the drive stands in the path's raw set, and its mark for the drive is gone. -/
def Told (s : State) (q : Path) (d : Drive) : Prop :=
  (⟨.released, d, .none⟩ : Notice) ∈ (s.port q).raw ∧ (s.port q).awaitRelease.get d = false

theorem told_releaseDrive_of_told {s : State} {q : Path} {d : Drive} (h : Told s q d) (e : Drive)
    (former : Option Nat) : Told (s.releaseDrive e former) q d := by
  obtain ⟨hraw, hmark⟩ := h
  refine ⟨?_, ?_⟩
  · rw [releaseDrive_port]
    split
    · by_cases hd : d = e
      · exact (mem_addNotice _ _ _).2 (.inl (by rw [hd]))
      · exact (mem_addNotice _ _ _).2 (.inr ⟨hraw, by simp [Notice.sameKey, hd]⟩)
    · exact hraw
  · rw [releaseDrive_awaitRelease]
    by_cases hd : d = e
    · rw [hd, PerDrive.get_set_same]
    · rw [PerDrive.get_set_other _ _ _ _ hd, hmark]

theorem told_releaseDrive_of_marked {s : State} {q : Path} {d : Drive} {former : Option Nat}
    (h : (s.port q).awaitRelease.get d = true ∨ formerMember s former q = true) :
    Told (s.releaseDrive d former) q d :=
  ⟨by rw [releaseDrive_port, if_pos h]; exact (mem_addNotice _ _ _).2 (.inl rfl),
    by rw [releaseDrive_awaitRelease, PerDrive.get_set_same]⟩

/-! ## The answer of an immediate order (R164) -/

theorem answer_port_same (s : State) (p : Path) (f : List Byte) (c : Code) :
    (s.answer p f c).port p = answering s p [.ending (answerOf f c false none)] :=
  State.setPort_port_same _ _ _

theorem answer_port_other {p q : Path} (s : State) (f : List Byte) (c : Code) (h : q ≠ p) :
    (s.answer p f c).port q = s.port q :=
  State.setPort_port_other _ _ _ _ h

/-- An answer leaves the notices and the marks of every path. -/
theorem answer_notices (s : State) (p : Path) (f : List Byte) (c : Code) (q : Path) :
    ((s.answer p f c).port q).raw = (s.port q).raw ∧
      ((s.answer p f c).port q).awaitRelease = (s.port q).awaitRelease := by
  by_cases h : q = p
  · subst h
    rw [answer_port_same]
    exact ⟨rfl, rfl⟩
  · rw [answer_port_other s f c h]
    exact ⟨rfl, rfl⟩

/-! ## FORCE RELEASE (R152) -/

/-- The row of an order frame of code 18H. -/
theorem rowOf_forceRelease {f : List Byte} (h : PlainOrder f 0x18) : rowOf f = .forceRelease := by
  obtain ⟨-, -, hcode, -⟩ := h
  simp [rowOf, hcode]

/-- A plain FORCE RELEASE on S that names a drive passes both checks (R163). -/
theorem firstChecks_forceRelease {f : List Byte} {d : Drive} (h : PlainOrder f 0x18) (hd : frameDrive f = some d) :
    firstChecks .s f = none := by
  have hrow := rowOf_forceRelease h
  have hshape := frameShape_of_plainOrder h
  obtain ⟨-, -, -, hdirect⟩ := h
  simp [firstChecks, badOrder, notPermitted, hshape, driveBad, fieldsBad, flagsBad, hrow, hdirect, hd]

/-- The answer to a FORCE RELEASE names the drive (R107). -/
theorem answerOf_forceRelease {f : List Byte} {d : Drive} (h : rowOf f = .forceRelease) (hd : frameDrive f = some d) :
    answerOf f .normal false none = ⟨none, .normal, false, false, some d, 0, none, none⟩ := by
  simp [answerOf, namedDrive, h, hd]

/-- A plain FORCE RELEASE on S releases the drive if a group holds it, and ends NORMAL. -/
theorem exec_forceRelease {s : State} {ended : List Path} {f : List Byte} {d : Drive} (ht : s.takes ended .s f)
    (hf : PlainOrder f 0x18) (hd : frameDrive f = some d) :
    exec (.forceRelease ended) s =
      .next (((s.reservedBy d).elim s fun g => s.releaseDrive d (some g)).answer .s f .normal) := by
  have hturn := decoderTurn_of_takes ht (rowOf_forceRelease hf)
  have htaken : s.noteTaken .s = s := rfl
  cases hr : s.reservedBy d <;>
    simp [exec, execForceRelease, hturn, htaken, State.immediate, firstChecks_forceRelease hf hd, hd, hr]

/-- Settles O43: the release tells the marked paths and the holder group's members, and the answer touches neither
notices nor marks. -/
theorem forceReleaseFreesTheDrive : Obligations.ForceReleaseFreesTheDrive := by
  intro s ended f d ht hf hd
  have hanswer := answerOf_forceRelease (rowOf_forceRelease hf) hd
  rw [exec_forceRelease ht hf hd]
  refine ⟨fun hfree => ?_, fun g hheld => ⟨_, rfl, ?_⟩⟩
  · rw [hfree, ← hanswer]
    rfl
  rw [hheld, Option.elim_some]
  have hreserved := State.releaseDrive_reservedBy s d (former := some g)
  have hnotices := answer_notices (s.releaseDrive d (some g)) .s f .normal
  have hport := answer_port_same (s.releaseDrive d (some g)) .s f .normal
  refine ⟨(hreserved d).trans (if_pos rfl), fun e he => (hreserved e).trans (if_neg he), fun q htold => ?_,
    fun q hnot => ?_, fun q => ?_, by rw [hport]; rfl, by rw [hport, ← hanswer]; rfl, fun q hq => ?_, ?_⟩
  · obtain ⟨hraw, -⟩ := hnotices q
    obtain ⟨hmem, -⟩ := told_releaseDrive_of_marked (q := q) (former := some g) (by rwa [formerMember_some_iff])
    rwa [hraw]
  · obtain ⟨hraw, -⟩ := hnotices q
    rw [hraw, releaseDrive_port, if_neg (by rwa [formerMember_some_iff])]
  · obtain ⟨-, hawait⟩ := hnotices q
    rw [hawait, releaseDrive_awaitRelease]
  · rw [answer_port_other _ _ _ hq]
    exact releaseDrive_port_eq s d (some g) q
  · exact (onlyReleases_releaseDrive s d (some g)).trans rfl

/-! ## A group left without members (R145) -/

/-- The drive is released if the group holds it. -/
def releaseHeld (g : Nat) (s : State) (d : Drive) : State :=
  if s.reservedBy d = some g then s.releaseDrive d none else s

/-- No host path has this number. -/
def Memberless (s : State) (g : Nat) : Prop := ∀ q, q ≠ .s → s.group q ≠ g

theorem memberless_iff_hosts (s : State) (g : Nat) :
    Memberless s g ↔ ∀ q ∈ [Path.a, .b, .c, .d], s.group q ≠ g := by
  refine ⟨fun h q hq => h q ?_, fun h q hq => h q ?_⟩
  · rintro rfl
    simp at hq
  · cases q <;> simp at hq ⊢

/-- When a group other than 0 has no host path any more, each drive that it holds is released. -/
theorem emptyGroup_of_memberless {s : State} {g : Nat} (h : g ≠ 0 ∧ Memberless s g) :
    s.emptyGroup g = allDrives.foldl (releaseHeld g) s := by
  rw [memberless_iff_hosts] at h
  exact if_pos h

theorem emptyGroup_of_not_memberless {s : State} {g : Nat} (h : ¬(g ≠ 0 ∧ Memberless s g)) :
    s.emptyGroup g = s := by
  rw [memberless_iff_hosts] at h
  exact if_neg h

theorem onlyReleases_releaseHeld (g : Nat) (s : State) (d : Drive) : OnlyReleases s (releaseHeld g s d) := by
  unfold releaseHeld
  split
  · exact onlyReleases_releaseDrive s d none
  · exact .refl s

theorem onlyReleases_emptyGroup (s : State) (g : Nat) : OnlyReleases s (s.emptyGroup g) := by
  by_cases h : g ≠ 0 ∧ Memberless s g
  · rw [emptyGroup_of_memberless h]
    exact .foldl (onlyReleases_releaseHeld g) allDrives s
  · rw [emptyGroup_of_not_memberless h]
    exact .refl s

theorem releaseHeld_reservedBy (g : Nat) (s : State) (d e : Drive) :
    (releaseHeld g s d).reservedBy e = if e = d ∧ s.reservedBy e = some g then none else s.reservedBy e := by
  unfold releaseHeld
  by_cases he : e = d
  · subst he
    split <;> simp [*, State.releaseDrive_reservedBy]
  · split <;> simp [State.releaseDrive_reservedBy, he]

theorem told_releaseHeld_of_told {s : State} {q : Path} {d : Drive} (h : Told s q d) (g : Nat) (e : Drive) :
    Told (releaseHeld g s e) q d := by
  unfold releaseHeld
  split
  · exact told_releaseDrive_of_told h e none
  · exact h

/-- A mark for one drive stands through the release of another. -/
theorem releaseHeld_mark_other {d e : Drive} (g : Nat) (s : State) (q : Path) (h : e ≠ d) :
    ((releaseHeld g s d).port q).awaitRelease.get e = (s.port q).awaitRelease.get e := by
  unfold releaseHeld
  split
  · rw [releaseDrive_awaitRelease, PerDrive.get_set_other _ _ _ _ h]
  · rfl

theorem foldl_releaseHeld_reservedBy (g : Nat) (ds : List Drive) (s : State) (e : Drive) :
    (ds.foldl (releaseHeld g) s).reservedBy e =
      if e ∈ ds ∧ s.reservedBy e = some g then none else s.reservedBy e := by
  induction ds generalizing s with
  | nil => simp
  | cons d ds ih =>
    rw [List.foldl_cons, ih, releaseHeld_reservedBy]
    by_cases hheld : s.reservedBy e = some g
    · by_cases he : e = d <;> simp [he, hheld]
    · simp [hheld]

theorem told_foldl_of_told {s : State} {q : Path} {e : Drive} (h : Told s q e) (g : Nat) (ds : List Drive) :
    Told (ds.foldl (releaseHeld g) s) q e := by
  induction ds generalizing s with
  | nil => exact h
  | cons d ds ih => exact ih (told_releaseHeld_of_told h g d)

/-- Each path marked for a drive that the group holds is told of its release, whatever releases stand around it. -/
theorem told_foldl_of_marked {g : Nat} {e : Drive} {q : Path} {ds : List Drive} (he : e ∈ ds) {s : State}
    (hheld : s.reservedBy e = some g) (hmark : (s.port q).awaitRelease.get e = true) :
    Told (ds.foldl (releaseHeld g) s) q e := by
  induction ds generalizing s with
  | nil => simp at he
  | cons d ds ih =>
    rw [List.foldl_cons]
    by_cases hd : e = d
    · subst hd
      refine told_foldl_of_told ?_ g ds
      rw [releaseHeld, if_pos hheld]
      exact told_releaseDrive_of_marked (.inl hmark)
    · refine ih ((List.mem_cons.1 he).resolve_left hd) ?_ ?_
      · rw [releaseHeld_reservedBy, if_neg fun h => hd h.1, hheld]
      · rw [releaseHeld_mark_other g s q hd, hmark]

theorem mem_allDrives (d : Drive) : d ∈ allDrives := by
  revert d
  decide

/-- The drives of a group left empty become UNRESERVED, and no other drive's reservation changes (R145). -/
theorem emptyGroup_reservedBy {s : State} {g : Nat} (h : g ≠ 0 ∧ Memberless s g) (e : Drive) :
    (s.emptyGroup g).reservedBy e = if s.reservedBy e = some g then none else s.reservedBy e := by
  rw [emptyGroup_of_memberless h, foldl_releaseHeld_reservedBy]
  simp [mem_allDrives]

/-- Each path marked for a drive of a group left empty is told of its release (R145, R147). -/
theorem told_emptyGroup {s : State} {g : Nat} (h : g ≠ 0 ∧ Memberless s g) {e : Drive} {q : Path}
    (hheld : s.reservedBy e = some g) (hmark : (s.port q).awaitRelease.get e = true) : Told (s.emptyGroup g) q e := by
  rw [emptyGroup_of_memberless h]
  exact told_foldl_of_marked (mem_allDrives e) hheld hmark

/-! ## SET GROUP (R144) -/

/-- The row of an order frame of code 10H. -/
theorem rowOf_setGroup {f : List Byte} (h : PlainOrder f 0x10) : rowOf f = .setGroup := by
  obtain ⟨-, -, hcode, -⟩ := h
  simp [rowOf, hcode]

/-- A plain SET GROUP with a number in range, on S only 0, passes both checks (R144, R163). -/
theorem firstChecks_setGroup {p : Path} {f : List Byte} (h : PlainOrder f 0x10) (hle : byteAt f 12 ≤ 15)
    (hs : p = .s → byteAt f 12 = 0) : firstChecks p f = none := by
  have hrow := rowOf_setGroup h
  have hshape := frameShape_of_plainOrder h
  have hfields : fieldsBad p f = false := by
    rw [fieldsBad, hrow]
    exact decide_eq_false fun hbad => hbad.elim (Nat.not_lt_of_le hle) fun ⟨hp, hne⟩ => hne (hs hp)
  obtain ⟨-, -, -, hdirect⟩ := h
  simp [firstChecks, badOrder, notPermitted, hshape, driveBad, hfields, flagsBad, serviceOnly, hrow, hdirect]

/-- The answer to a SET GROUP names no drive (R107). -/
theorem answerOf_setGroup {f : List Byte} (h : rowOf f = .setGroup) (c : Code) :
    answerOf f c false none = ⟨none, c, false, false, none, 0, none, none⟩ := by
  simp [answerOf, namedDrive, h]

/-- A plain SET GROUP with a number in range is carried out, with the host path noted. -/
theorem exec_setGroup {s : State} {ended : List Path} {p : Path} {f : List Byte} (ht : s.takes ended p f)
    (hf : PlainOrder f 0x10) (hle : byteAt f 12 ≤ 15) (hs : p = .s → byteAt f 12 = 0) :
    exec (.setGroup ended) s = .next ((s.noteTaken p).doSetGroup p f) := by
  have hturn := decoderTurn_of_takes ht (rowOf_setGroup hf)
  simp [exec, execSetGroup, hturn, State.immediate, firstChecks_setGroup hf hle hs]

theorem tagsInUse_iff (s : State) (p : Path) : s.tagsInUse p = true ↔ ¬∀ t, (s.port p).tags.get t = .free := by
  have hmem : ∀ t : Tag, t ∈ allTags := by decide
  simp [State.tagsInUse, hmem]

theorem noteTaken_tagsInUse (s : State) (p q : Path) : (s.noteTaken p).tagsInUse q = s.tagsInUse q := by
  rw [noteTaken_eq]
  rfl

theorem noteTaken_group (s : State) (p q : Path) : (s.noteTaken p).group q = s.group q := by
  rw [noteTaken_eq]
  rfl

/-! ## The path has its new number (R144, R145) -/

/-- The order of `p` is taken and its new number written; the group that it leaves is not yet tried for members. -/
def renumbered (s : State) (p : Path) (g : Nat) : State := (s.noteTaken p).setGroup p g

theorem renumbered_eq (s : State) (p : Path) (g : Nat) :
    renumbered s p g = { s with groups := s.groups.set p g, lastHost := s.lastAfter p } := by
  rw [renumbered, noteTaken_eq]
  rfl

theorem renumbered_reserved (s : State) (p : Path) (g : Nat) : (renumbered s p g).reserved = s.reserved := by
  rw [renumbered_eq]

theorem renumbered_reservedBy (s : State) (p : Path) (g : Nat) (d : Drive) :
    (renumbered s p g).reservedBy d = s.reservedBy d :=
  congrArg (PerDrive.get · d) (renumbered_reserved s p g)

theorem renumbered_port (s : State) (p : Path) (g : Nat) (q : Path) : (renumbered s p g).port q = s.port q := by
  rw [renumbered_eq]
  rfl

theorem renumbered_group_same (s : State) (p : Path) (g : Nat) : (renumbered s p g).group p = g :=
  State.setGroup_group_same _ _ _

theorem renumbered_group_other {p q : Path} (s : State) (g : Nat) (h : q ≠ p) :
    (renumbered s p g).group q = s.group q :=
  (State.setGroup_group_other _ _ _ _ h).trans (noteTaken_group s p q)

/-- A path that takes another number leaves its group memberless exactly when no other host path is in it. -/
theorem memberless_renumbered_iff {s : State} {p : Path} {g left : Nat} (h : g ≠ left) :
    Memberless (renumbered s p g) left ↔ ∀ q, q ≠ p → q ≠ .s → s.group q ≠ left := by
  refine ⟨fun hall q hp hs => ?_, fun hall q hs => ?_⟩
  · rw [← renumbered_group_other s g hp]
    exact hall q hs
  · by_cases hp : q = p
    · rw [hp, renumbered_group_same]
      exact h
    · rw [renumbered_group_other s g hp]
      exact hall q hp hs

/-- What follows the new number leaves all but the reservations and the ports. -/
theorem OnlyReleases.of_renumbered {s u : State} {p : Path} {g : Nat} (h : OnlyReleases (renumbered s p g) u) :
    u = { s with groups := u.groups, reserved := u.reserved, ports := u.ports, lastHost := s.lastAfter p } := by
  rw [renumbered_eq] at h
  have hgroups : u.groups = s.groups.set p g := (congrArg State.groups h :)
  rw [hgroups]
  exact h

/-- A host path with all tags FREE that names another number takes it, and the group that it leaves is tried for
members, before the answer. -/
theorem doSetGroup_of_other {s : State} {p : Path} {f : List Byte} (hp : p ≠ .s)
    (hfree : ∀ t, (s.port p).tags.get t = .free) (hother : byteAt f 12 ≠ s.group p) :
    (s.noteTaken p).doSetGroup p f =
      ((renumbered s p (byteAt f 12)).emptyGroup (s.group p)).answer p f .normal := by
  rw [State.doSetGroup, if_neg hp, noteTaken_tagsInUse, if_neg (mt (tagsInUse_iff s p).1 (fun hused => hused hfree)),
    noteTaken_group, if_neg hother.symm]
  rfl

/-- Settles O37: the tests of R144 in order, then the number's change and the releases of the group left empty. -/
theorem setGroupMovesThePath : Obligations.SetGroupMovesThePath := by
  intro s ended p f ht hf hle hzero left free answers
  have hanswer := answerOf_setGroup (rowOf_setGroup hf)
  have hanswers (c : Code) : (s.noteTaken p).answer p f c = answers c := by
    rw [State.answer, hanswer, noteTaken_eq]
    rfl
  rw [exec_setGroup ht hf hle hzero]
  refine ⟨fun hp => ?_, fun hp hused => ?_, fun hp hfree hown => ?_, fun hp hfree hother => ?_⟩
  · rw [State.doSetGroup, if_pos hp, hanswers]
  · rw [State.doSetGroup, if_neg hp, noteTaken_tagsInUse, if_pos ((tagsInUse_iff s p).2 hused), hanswers]
  · rw [State.doSetGroup, if_neg hp, noteTaken_tagsInUse, if_neg (mt (tagsInUse_iff s p).1 (fun hused => hused hfree)),
      noteTaken_group, if_pos hown.symm, hanswers]
  rw [doSetGroup_of_other hp hfree hother]
  have honly := onlyReleases_emptyGroup (renumbered s p (byteAt f 12)) left
  have hempty : (left ≠ 0 ∧ ∀ q, q ≠ p → q ≠ .s → s.group q ≠ left) ↔
      left ≠ 0 ∧ Memberless (renumbered s p (byteAt f 12)) left := by
    rw [memberless_renumbered_iff hother]
  have hheldBy := renumbered_reservedBy s p (byteAt f 12)
  have hanswered := answer_port_same ((renumbered s p (byteAt f 12)).emptyGroup left) p f .normal
  have hnotices := answer_notices ((renumbered s p (byteAt f 12)).emptyGroup left) p f .normal
  refine ⟨_, rfl, (honly.group p).trans (renumbered_group_same _ _ _),
    fun q hq => (honly.group q).trans (renumbered_group_other _ _ hq), by rw [hanswered]; rfl,
    by rw [hanswered, ← hanswer]; rfl,
    fun hleft => ⟨fun d hheld => ⟨?_, fun q hmark => ?_⟩, fun d hnot => ?_⟩, fun hstay => ?_, ?_⟩
  · exact (emptyGroup_reservedBy (hempty.1 hleft) d).trans (if_pos ((hheldBy d).trans hheld))
  · obtain ⟨hraw, hawait⟩ := hnotices q
    rw [hraw, hawait]
    exact told_emptyGroup (hempty.1 hleft) ((hheldBy d).trans hheld) (by rwa [renumbered_port])
  · rw [← hheldBy] at hnot ⊢
    exact (emptyGroup_reservedBy (hempty.1 hleft) d).trans (if_neg hnot)
  · have hsame := emptyGroup_of_not_memberless (mt hempty.2 hstay)
    refine ⟨(congrArg State.reserved hsame).trans (renumbered_reserved _ _ _), fun q => ?_⟩
    obtain ⟨hraw, -⟩ := hnotices q
    rw [hraw, hsame, renumbered_port]
  · exact OnlyReleases.of_renumbered (honly.trans rfl)

end Sys2Proof.PathGroups
end

section
/-! PROOFS. Endings and notices (chapter 9): the port's own frames and their order (R161, R167), SET NOTICES and CLEAR NOTICES (R166), LOAD TABLE handed to the table store (R173), and order codes outside Table 9-12 (R163). -/

namespace Sys2Proof.EndingsAndNotices
open Sys2Proof.Machine Sys2Proof.BlockChecking Sys2Proof.WatchList

/-! ## The order of notices (R167) -/

/-- The place of a notice in the order of sending: by the number of its kind, then by its drive (R167). -/
def sendingPlace (n : Notice) : Nat := 8 * n.kind.number + n.drive.val

theorem before_iff (a b : Notice) : a.before b = true ↔ sendingPlace a < sendingPlace b := by
  have ha := a.drive.isLt
  have hb := b.drive.isLt
  simp only [Notice.before, sendingPlace, Bool.or_eq_true, Bool.and_eq_true, decide_eq_true_eq, Fin.lt_def]
  omega

theorem before_eq_false_iff (a b : Notice) : a.before b = false ↔ sendingPlace b ≤ sendingPlace a := by
  rw [← Bool.not_eq_true, before_iff, Nat.not_lt]

theorem number_injective : Function.Injective NoticeKind.number := by
  intro a b h
  cases a <;> cases b <;> cases h <;> rfl

/-- A place belongs to one kind and drive. -/
theorem sameKey_of_sendingPlace_eq {a b : Notice} (h : sendingPlace a = sendingPlace b) :
    a.kind = b.kind ∧ a.drive = b.drive := by
  have ha := a.drive.isLt
  have hb := b.drive.isLt
  unfold sendingPlace at h
  exact ⟨number_injective (by omega), Fin.ext (by omega)⟩

/-! ## The notice that goes out (R167) -/

/-- No notice is chosen exactly when the mask enables none. -/
theorem chooseNotice_eq_none_iff (mask : BitVec 8) (raw : List Notice) :
    chooseNotice mask raw = none ↔ ∀ m ∈ raw, m.kind.inMask mask = false := by
  induction raw with
  | nil => simp [chooseNotice]
  | cons n ns ih =>
    rw [List.forall_mem_cons, ← ih, chooseNotice]
    cases chooseNotice mask ns with
    | none => simp
    | some m =>
      simp only [reduceCtorEq, and_false, iff_false]
      split <;> exact Option.some_ne_none _

/-- The chosen notice is an enabled member, and no enabled member has an earlier place. -/
theorem chooseNotice_eq_some {mask : BitVec 8} {raw : List Notice} {c : Notice} (h : chooseNotice mask raw = some c) :
    c ∈ raw ∧ c.kind.inMask mask = true ∧
      ∀ m ∈ raw, m.kind.inMask mask = true → sendingPlace c ≤ sendingPlace m := by
  induction raw generalizing c with
  | nil => cases h
  | cons n ns ih =>
    rw [chooseNotice] at h
    rw [List.forall_mem_cons]
    cases htail : chooseNotice mask ns with
    | none =>
      have hnone := (chooseNotice_eq_none_iff mask ns).1 htail
      simp only [htail, Option.ite_none_right_eq_some, Option.some.injEq] at h
      obtain ⟨hn, rfl⟩ := h
      exact ⟨List.mem_cons_self, hn, fun _ => Nat.le_refl _, fun m hm hon => absurd hon (by simp [hnone m hm])⟩
    | some m =>
      obtain ⟨hmem, hon, hleast⟩ := ih htail
      simp only [htail] at h
      split at h
      next hhead =>
        obtain ⟨hn, hbefore⟩ := hhead
        obtain rfl := Option.some.inj h
        rw [before_eq_false_iff] at hbefore
        exact ⟨List.mem_cons_self, hn, fun _ => Nat.le_refl _, fun x hx hxon => Nat.le_trans hbefore (hleast x hx hxon)⟩
      next hhead =>
        obtain rfl := Option.some.inj h
        refine ⟨List.mem_cons_of_mem _ hmem, hon, fun hn => ?_, hleast⟩
        have hbefore : m.before n = true := by simpa [hn] using hhead
        exact Nat.le_of_lt ((before_iff m n).1 hbefore)

/-- Of members no two of which have one kind and drive, a kind and drive names one (R166). -/
theorem eq_of_pairwise_keys {raw : List Notice} (hraw : raw.Pairwise fun a b => ¬(a.kind = b.kind ∧ a.drive = b.drive))
    {m n : Notice} (hm : m ∈ raw) (hn : n ∈ raw) (h : m.kind = n.kind ∧ m.drive = n.drive) : m = n := by
  induction hraw with
  | nil => cases hm
  | cons hhead _ ih =>
    obtain hm | ⟨_, hm⟩ := hm <;> obtain hn | ⟨_, hn⟩ := hn
    · rfl
    · exact absurd h (hhead _ hn)
    · obtain ⟨hkind, hdrive⟩ := h
      exact absurd ⟨hkind.symm, hdrive.symm⟩ (hhead _ hm)
    · exact ih hm hn

section
variable {s : State} {p : Path} {n : Notice}

/-- The enabled member of lowest rank, and among those of lowest drive, is the one chosen. -/
theorem chooseNotice_of_least (hsound : s.NoticesSound) (hn : n ∈ (s.port p).raw)
    (hon : n.kind.inMask (s.port p).mask = true)
    (hleast : ∀ m ∈ (s.port p).raw, m.kind.inMask (s.port p).mask = true →
      n.kind.number < m.kind.number ∨ (n.kind = m.kind ∧ n.drive ≤ m.drive)) :
    chooseNotice (s.port p).mask (s.port p).raw = some n := by
  cases hc : chooseNotice (s.port p).mask (s.port p).raw with
  | none => exact absurd hon (by simp [(chooseNotice_eq_none_iff _ _).1 hc n hn])
  | some c =>
    obtain ⟨hmem, hcon, hfirst⟩ := chooseNotice_eq_some hc
    have hcn : sendingPlace c ≤ sendingPlace n := hfirst n hn hon
    have hnc : sendingPlace n ≤ sendingPlace c := by
      unfold sendingPlace
      obtain hlt | ⟨hkind, hle⟩ := hleast c hmem hcon
      · have hdrive := n.drive.isLt
        omega
      · rw [hkind]
        exact Nat.add_le_add_left hle _
    rw [eq_of_pairwise_keys (hsound p) hmem hn (sameKey_of_sendingPlace_eq (Nat.le_antisymm hcn hnc))]

/-- In a sound raw set the members without a member's kind and drive are the other members. -/
theorem filter_sameKey (hsound : s.NoticesSound) (hn : n ∈ (s.port p).raw) :
    ((s.port p).raw.filter fun m => !m.sameKey n) = (s.port p).raw.filter (· ≠ n) := by
  refine List.filter_congr fun m hm => ?_
  have hiff : (m.kind = n.kind ∧ m.drive = n.drive) ↔ m = n :=
    ⟨eq_of_pairwise_keys (hsound p) hm hn, fun h => h ▸ ⟨rfl, rfl⟩⟩
  simp [Notice.sameKey, hiff]

/-! ## The port's own frames begin (R161, R167) -/

/-- The head of the ending list goes out, and only that list loses it (R161). -/
theorem beginEnding_of_cons {e : Ending} {rest : List Ending} (h : (s.port p).endings = e :: rest) :
    s.beginEnding p =
      s.setPort p { s.port p with link := .sending, out := [.ending e], rx := none, endings := rest } := by
  simp only [State.beginEnding, h, State.send, setPort_setPort, State.setPort_port_same]

/-- The chosen notice goes out, and the members of its kind and drive leave the raw set (R167). -/
theorem beginNotice_of_chosen (h : chooseNotice (s.port p).mask (s.port p).raw = some n) :
    s.beginNotice p = s.setPort p { s.port p with
      link := .sending, out := [.notice n], rx := none, raw := (s.port p).raw.filter fun m => !m.sameKey n } := by
  simp only [State.beginNotice, h, State.send, setPort_setPort, State.setPort_port_same]

theorem exec_endingFrameBegin_of_cons {e : Ending} {rest : List Ending} (hfree : (s.port p).link = .free)
    (h : (s.port p).endings = e :: rest) :
    exec (.endingFrameBegin p) s = .next (s.setPort p
      { s.port p with link := .sending, out := [.ending e], rx := none, endings := rest }) := by
  rw [← beginEnding_of_cons h]
  exact if_pos hfree

/-- Without a FREE link or an ending that waits, no ending begins (R161). -/
theorem exec_endingFrameBegin_idle (h : (s.port p).link ≠ .free ∨ (s.port p).endings = []) :
    exec (.endingFrameBegin p) s = .next s := by
  have hempty (hnil : (s.port p).endings = []) : s.beginEnding p = s := by rw [State.beginEnding, hnil]
  obtain hbusy | hnil := h
  · exact if_neg hbusy
  · simp [exec, execEndingFrameBegin, hempty hnil]

theorem exec_noticeFrameBegin_of_chosen (hfree : (s.port p).link = .free) (hnil : (s.port p).endings = [])
    (h : chooseNotice (s.port p).mask (s.port p).raw = some n) :
    exec (.noticeFrameBegin p) s = .next (s.setPort p { s.port p with
      link := .sending, out := [.notice n], rx := none, raw := (s.port p).raw.filter fun m => !m.sameKey n }) := by
  rw [← beginNotice_of_chosen h]
  exact if_pos ⟨hfree, hnil⟩

/-- Without a FREE link, behind an ending that waits, or with no member enabled, no notice begins (R161, R167). -/
theorem exec_noticeFrameBegin_idle (h : (s.port p).link ≠ .free ∨ (s.port p).endings ≠ [] ∨
    ∀ m ∈ (s.port p).raw, m.kind.inMask (s.port p).mask = false) : exec (.noticeFrameBegin p) s = .next s := by
  obtain hbusy | hwaits | hoff := h
  · exact if_neg fun hgo => hbusy hgo.1
  · exact if_neg fun hgo => hwaits hgo.2
  · have hnone : s.beginNotice p = s := by rw [State.beginNotice, (chooseNotice_eq_none_iff _ _).2 hoff]
    simp [exec, execNoticeFrameBegin, hnone]

end

/-- Settles O32: the member of lowest rank and drive is the one chosen, and in a sound raw set it alone leaves. -/
theorem portFramesGoOutInOrder : Obligations.PortFramesGoOutInOrder := by
  refine ⟨fun s p => ⟨fun e rest => exec_endingFrameBegin_of_cons, exec_endingFrameBegin_idle⟩,
    fun s p hsound => ⟨fun n hn hfree hnil hon hleast => ?_, exec_noticeFrameBegin_idle⟩⟩
  rw [exec_noticeFrameBegin_of_chosen hfree hnil (chooseNotice_of_least hsound hn hon hleast),
    filter_sameKey hsound hn]
  refine ⟨_, rfl, ?_, ?_, ?_, ?_, fun q hq => State.setPort_port_other _ _ _ _ hq, rfl⟩
  all_goals rw [State.setPort_port_same]

/-! ## Checks and answers (R163–R165) -/

/-- A plain order passes the first check when its drive byte, its fields and its flags do (R163). -/
theorem badOrder_of_plainOrder {p : Path} {f : List Byte} {code : Nat} (h : PlainOrder f code)
    (hdrive : driveBad f = false) (hfields : fieldsBad p f = false) (hflags : flagsBad f = false) :
    badOrder p f = false := by
  have hshape := frameShape_of_plainOrder h
  obtain ⟨-, -, -, hdirect⟩ := h
  simp [badOrder, hshape, hdrive, hfields, hflags, hdirect]

/-- An answer to an order that names no drive, and no tag where it is refused, carries its code alone (R165). -/
theorem answerOf_nameless {f : List Byte} (hdrive : namedDrive f = none) (htag : refusalTag f = none) (c : Code)
    (refused : Bool) : answerOf f c refused none = ⟨none, c, refused, false, none, 0, none, none⟩ := by
  cases refused <;> simp [answerOf, hdrive, htag]

/-- A refusal in the decoder's turn writes its answer into the port, and the path's turn is noted (R162, R165). -/
theorem noteTaken_refuse {f : List Byte} (hdrive : namedDrive f = none) (htag : refusalTag f = none) (s : State)
    (p : Path) (c : Code) : (s.noteTaken p).refuse p f c = { s with
      lastHost := s.lastAfter p
      ports := s.ports.set p (answering s p [.ending ⟨none, c, true, false, none, 0, none, none⟩]) } := by
  rw [State.refuse, answerOf_nameless hdrive htag, noteTaken_eq]
  rfl

/-! ## SET NOTICES and CLEAR NOTICES (R166) -/

theorem rowOf_setNotices {f : List Byte} (h : PlainOrder f 0x11) : rowOf f = .setNotices := by
  obtain ⟨-, -, hcode, -⟩ := h
  simp [rowOf, hcode]

theorem rowOf_clearNotices {f : List Byte} (h : PlainOrder f 0x12) : rowOf f = .clearNotices := by
  obtain ⟨-, -, hcode, -⟩ := h
  simp [rowOf, hcode]

/-- A plain order on the notices passes both checks on every path, whatever its masks (R163). -/
theorem firstChecks_notices {p : Path} {f : List Byte} {code : Nat} (h : PlainOrder f code)
    (hrow : rowOf f = .setNotices ∨ rowOf f = .clearNotices) : firstChecks p f = none := by
  have hgood : badOrder p f = false := by
    obtain hrow | hrow := hrow <;>
      exact badOrder_of_plainOrder h (by rw [driveBad, hrow]) (by rw [fieldsBad, hrow]) (by rw [flagsBad, hrow])
  have hopen : serviceOnly (rowOf f) = false := by
    obtain hrow | hrow := hrow <;> rw [hrow] <;> rfl
  obtain ⟨-, -, -, hdirect⟩ := h
  simp [firstChecks, hgood, notPermitted, hopen, hdirect]

/-- The ending of an order on the notices carries its code alone (R165; log entry 59). -/
theorem answerOf_notices {f : List Byte} (hrow : rowOf f = .setNotices ∨ rowOf f = .clearNotices) :
    answerOf f .normal false none = ⟨none, .normal, false, false, none, 0, none, none⟩ := by
  obtain hrow | hrow := hrow <;>
    exact answerOf_nameless (by rw [namedDrive, hrow]) (by rw [refusalTag, hrow]) .normal false

/-- A plain SET NOTICES writes the mask and the answer into its port (R166). -/
theorem exec_setNotices {s : State} {ended : List Path} {p : Path} {f : List Byte} (ht : s.takes ended p f)
    (hf : PlainOrder f 0x11) : exec (.setNotices ended) s = .next { s with
      lastHost := s.lastAfter p
      ports := s.ports.set p { answering s p [.ending ⟨none, .normal, false, false, none, 0, none, none⟩] with
        mask := f.getD 12 0 } } := by
  have hrow := rowOf_setNotices hf
  simp only [exec, execSetNotices, decoderTurn_of_takes ht hrow, State.immediate, firstChecks_notices hf (.inl hrow),
    State.answer, answerOf_notices (.inl hrow), State.send, setPort_setPort, State.setPort_port_same, noteTaken_eq]
  rfl

/-- A plain CLEAR NOTICES writes the members not named and the answer into its port (R166). -/
theorem exec_clearNotices {s : State} {ended : List Path} {p : Path} {f : List Byte} (ht : s.takes ended p f)
    (hf : PlainOrder f 0x12) : exec (.clearNotices ended) s = .next { s with
      lastHost := s.lastAfter p
      ports := s.ports.set p { answering s p [.ending ⟨none, .normal, false, false, none, 0, none, none⟩] with
        raw := (s.port p).raw.filter fun n => !n.named (f.getD 12 0) (f.getD 13 0) } } := by
  have hrow := rowOf_clearNotices hf
  simp only [exec, execClearNotices, decoderTurn_of_takes ht hrow, State.immediate, firstChecks_notices hf (.inr hrow),
    State.answer, answerOf_notices (.inr hrow), State.send, setPort_setPort, State.setPort_port_same, noteTaken_eq]
  rfl

/-- A notice is named by the bit of its kind and the bit of its drive (R166, Table 9-8). -/
theorem named_iff (n : Notice) (kinds drives : BitVec 8) :
    n.named kinds drives = true ↔ kinds.getLsbD (n.kind.number - 1) = true ∧ drives.getLsbD n.drive.val = true := by
  simp [Notice.named, NoticeKind.inMask]

/-- Settles O38: both orders pass their checks, and CLEAR NOTICES filters the raw set by the members named. -/
theorem noticeOrdersActOnTheirPath : Obligations.NoticeOrdersActOnTheirPath := by
  refine fun s ended p f ht => ⟨exec_setNotices ht, fun hf => ⟨_, exec_clearNotices ht hf, ?_⟩⟩
  simp only [State.port, PerPath.get_set_same]
  refine ⟨fun n => ?_, List.filter_sublist, trivial⟩
  rw [List.mem_filter, Bool.not_eq_true', ← Bool.not_eq_true, named_iff]

/-! ## LOAD TABLE (R173) and unknown order codes (R163) -/

theorem rowOf_loadTable {f : List Byte} (h : PlainOrder f 0x16) : rowOf f = .loadTable := by
  obtain ⟨-, -, hcode, -⟩ := h
  simp [rowOf, hcode]

/-- A plain LOAD TABLE of a table's code passes the first check everywhere and the second on S alone (R163). -/
theorem firstChecks_loadTable {p : Path} {f : List Byte} (h : PlainOrder f 0x16) (h1 : 1 ≤ byteAt f 12)
    (h8 : byteAt f 12 ≤ 8) : firstChecks p f = if p = .s then none else some .notPermitted := by
  have hrow := rowOf_loadTable h
  have hfields : fieldsBad p f = false := by
    rw [fieldsBad, hrow]
    exact decide_eq_false (by omega)
  have hgood := badOrder_of_plainOrder h (by rw [driveBad, hrow]) hfields (by rw [flagsBad, hrow])
  by_cases hp : p = .s
  · subst hp
    simp [firstChecks, hgood, notPermitted]
  · simp [firstChecks, hgood, notPermitted, hp, serviceOnly, hrow]

/-- A code outside Table 9-12 is an unknown row. -/
theorem rowOf_unknown {f : List Byte}
    (h : byteAt f 1 ∉ [0x01, 0x02, 0x03, 0x04, 0x05, 0x06, 0x07, 0x10, 0x11, 0x12, 0x13, 0x14, 0x15, 0x16, 0x17, 0x18,
      0x19]) : rowOf f = .unknown := by
  unfold rowOf
  split
  case h_18 => rfl
  all_goals next hcode => exact absurd (by simp [hcode]) h

/-- LOAD TABLE on S opens the load and takes the order out of the port, which stays as it was otherwise (R173). -/
theorem exec_loadTable_service {s : State} {ended : List Path} {f : List Byte} (ht : s.takes ended .s f)
    (hf : PlainOrder f 0x16) (h1 : 1 ≤ byteAt f 12) (h8 : byteAt f 12 ≤ 8) :
    exec (.loadTable ended) s = .next { s with
      load := some ⟨byteAt f 12, byteAt f 13, wordAt f 14, []⟩
      ports := s.ports.set .s { s.port .s with rx := none } } := by
  simp only [exec, execLoadTable, decoderTurn_of_takes ht (rowOf_loadTable hf), State.immediate,
    firstChecks_loadTable hf h1 h8, if_true]
  rfl

/-- LOAD TABLE on a host path is refused NOT PERMITTED (R163). -/
theorem exec_loadTable_host {s : State} {ended : List Path} {p : Path} {f : List Byte} (ht : s.takes ended p f)
    (hf : PlainOrder f 0x16) (h1 : 1 ≤ byteAt f 12) (h8 : byteAt f 12 ≤ 8) (hp : p ≠ .s) :
    exec (.loadTable ended) s = .next { s with
      lastHost := p
      ports := s.ports.set p (answering s p [.ending ⟨none, .notPermitted, true, false, none, 0, none, none⟩]) } := by
  have hrow := rowOf_loadTable hf
  have hlast : s.lastAfter p = p := if_neg hp
  have hrefuse := noteTaken_refuse (by rw [namedDrive, hrow]) (by rw [refusalTag, hrow]) s p .notPermitted
  simp only [exec, execLoadTable, decoderTurn_of_takes ht hrow, State.immediate, firstChecks_loadTable hf h1 h8,
    if_neg hp, hrefuse, hlast]

/-- An unknown order code is refused BAD ORDER on every path (R163). -/
theorem exec_unknownOrderCode {s : State} {ended : List Path} {p : Path} {f : List Byte} (ht : s.takes ended p f)
    (hrow : rowOf f = .unknown) : exec (.unknownOrderCode ended) s = .next { s with
      lastHost := s.lastAfter p
      ports := s.ports.set p (answering s p [.ending ⟨none, .badOrder, true, false, none, 0, none, none⟩]) } := by
  simp only [exec, execUnknownOrderCode, decoderTurn_of_takes ht hrow]
  rw [noteTaken_refuse (by rw [namedDrive, hrow]) (by rw [refusalTag, hrow])]

/-- Settles O41: the second check parts S from the host paths, and an unknown code is its own row. -/
theorem loadTableIsHandedOver : Obligations.LoadTableIsHandedOver := by
  refine fun s ended p f ht => ⟨fun hf h1 h8 => ⟨fun hp => ?_, exec_loadTable_host ht hf h1 h8⟩,
    fun hcode => exec_unknownOrderCode ht (rowOf_unknown hcode)⟩
  subst hp
  exact exec_loadTable_service ht hf h1 h8

end Sys2Proof.EndingsAndNotices
end

section
/-! PROOFS. The table store (chapter 10): the entries of the loadable tables read back from their bytes (R174–R178), and FETCH TABLE with its addressing and its data frames (R171, R172). -/

namespace Sys2Proof.TableStore
open Sys2Proof.Machine Sys2Proof.BlockChecking Sys2Proof.EndingsAndNotices

/-! ## Numbers as bytes (R170) -/

theorem toNat_u8 {n : Nat} (h : n < 256) : (u8 n).toNat = n := by
  rw [u8, BitVec.toNat_ofNat]
  exact Nat.mod_eq_of_lt h

/-- The two bytes of a number give it back, the high byte first. -/
theorem wordAt_u16_append {n : Nat} (h : n < 65536) (bs : List Byte) : wordAt (u16 n ++ bs) 0 = n := by
  change 256 * (u8 (n / 256)).toNat + (u8 n).toNat = n
  rw [toNat_u8 (by omega), u8, BitVec.toNat_ofNat]
  exact Nat.div_add_mod n 256

theorem byteAt_take {k i : Nat} (h : i < k) (bs : List Byte) : byteAt (bs.take k) i = byteAt bs i := by
  simp [byteAt, h]

theorem wordAt_take {k i : Nat} (h : i + 1 < k) (bs : List Byte) : wordAt (bs.take k) i = wordAt bs i := by
  rw [wordAt, byteAt_take (Nat.lt_of_succ_lt h), byteAt_take h, wordAt]

/-- A flags byte whose one flag is bit 0 is 0 or 1. -/
theorem toNat_u8_flag (b : Bool) : (u8 (flag b 0)).toNat = b.toNat := by
  cases b <;> rfl

theorem getLsbD_u8_flags (a b : Bool) :
    (u8 (flag a 0 + flag b 1)).getLsbD 0 = a ∧ (u8 (flag a 0 + flag b 1)).getLsbD 1 = b := by
  revert a b
  decide

/-! ## GEOMETRY entries (R174) -/

theorem geometryOf_bytes {g : Geometry} (h : g.Sound) : geometryOf g.bytes = some g := by
  obtain ⟨hcylsLow, hcyls, hheadsLow, hheads, hsparesLow, hspares, heven⟩ := h
  have hprofile := g.profile.isLt
  have h0 : byteAt g.bytes 0 = g.present.toNat := toNat_u8_flag _
  have h1 : wordAt g.bytes 1 = g.cyls := wordAt_u16_append (by omega) []
  have h3 : byteAt g.bytes 3 = g.heads := toNat_u8 (by omega)
  have h4 : byteAt g.bytes 4 = g.spares := toNat_u8 (by omega)
  have h5 : byteAt g.bytes 5 = g.profile.val := toNat_u8 (by omega)
  obtain ⟨hauto, hscan⟩ := getLsbD_u8_flags g.autoSpare g.scan
  have h6 : g.bytes.getD 6 0 = u8 (flag g.autoSpare 0 + flag g.scan 1) := rfl
  simp only [geometryOf, h0, h1, h3, h4, h5, h6, hauto, hscan, hprofile, dite_true]
  rw [if_pos ⟨Bool.toNat_le _, hcylsLow, hcyls, hheadsLow, hheads, hsparesLow, hspares, heven⟩]
  cases g with
  | mk present => cases present <;> rfl

/-! ## PROFILE entries (R175) -/

/-- The points of a profile read back from their bytes, whatever follows these. -/
theorem points_of_bytes {p : List SeekPoint} (h : ∀ x ∈ p, x.bound < 65536 ∧ x.time < 256) (rest : List Byte) :
    ((List.range p.length).map fun i =>
      (⟨wordAt (p.flatMap SeekPoint.bytes ++ rest) (3 * i), byteAt (p.flatMap SeekPoint.bytes ++ rest) (3 * i + 2)⟩ :
        SeekPoint)) = p := by
  induction p with
  | nil => rfl
  | cons x xs ih =>
    rw [List.forall_mem_cons] at h
    obtain ⟨⟨hbound, htime⟩, htail⟩ := h
    rw [List.length_cons, List.range_succ_eq_map, List.map_cons, List.map_map]
    congr 1
    · congr 1
      · exact wordAt_u16_append hbound _
      · exact toNat_u8 htime
    · exact ih htail

/-- A sound profile passes the test of a load. -/
theorem profileOk_of_sound {p : List SeekPoint}
    (hrange : ∀ x ∈ p, 1 ≤ x.bound ∧ x.bound ≤ 1023 ∧ 1 ≤ x.time ∧ x.time ≤ 150)
    (horder : p.Pairwise fun a b => a.bound < b.bound ∧ a.time ≤ b.time) : profileOk p = true := by
  induction horder with
  | nil => rfl
  | @cons x xs hhead _ ih =>
    rw [List.forall_mem_cons] at hrange
    obtain ⟨hx, hxs⟩ := hrange
    cases xs with
    | nil => exact decide_eq_true hx
    | cons y ys =>
      have hxy := hhead y List.mem_cons_self
      simp [profileOk, ih hxs, hx, hxy]

theorem profileOf_bytes {p : List SeekPoint} (h : ProfileSound p) : profileOf (profileBytes p) = some p := by
  obtain ⟨hlength, hrange, horder⟩ := h
  have h0 : byteAt (profileBytes p) 0 = p.length := toNat_u8 (by omega)
  have hpoints : ((List.range p.length).map fun i =>
      (⟨wordAt (profileBytes p) (1 + 3 * i), byteAt (profileBytes p) (3 + 3 * i)⟩ : SeekPoint)) = p := by
    refine Eq.trans (List.map_congr_left fun i hi => ?_)
      (points_of_bytes (fun x hx => ?_) (List.replicate 25 0))
    · have hi := List.mem_range.1 hi
      rw [profileBytes, wordAt_take (by omega), byteAt_take (by omega), Nat.add_comm 1, Nat.add_comm 3]
      rfl
    · have hx := hrange x hx
      omega
  simp only [profileOf, h0, hpoints, profileOk_of_sound hrange horder, hlength, and_self, if_true]

/-! ## SPARE MAP records (R176) -/

/-- The last three bytes of a record are its alternate. -/
theorem alternate_of_bytes {r : MapRec} (hcyl : r.alt.cyl < 65536) (hhead : r.alt.head < 256) :
    wordAt r.bytes 4 = r.alt.cyl ∧ byteAt r.bytes 6 = r.alt.head := by
  obtain ⟨drive, alt, kind⟩ := r
  cases kind <;> exact ⟨wordAt_u16_append hcyl [u8 alt.head], toNat_u8 hhead⟩

theorem mapRecOf_bytes_active {r : MapRec} {home : Track} (hkind : r.kind = .active home) (hcyl : r.alt.cyl < 65536)
    (hhead : r.alt.head < 256) (hhomeCyl : home.cyl < 65536) (hhomeHead : home.head < 256) :
    mapRecOf r.drive r.bytes = some r := by
  obtain ⟨halt, haltHead⟩ := alternate_of_bytes hcyl hhead
  have h0 : byteAt r.bytes 0 = 1 := by rw [MapRec.bytes, hkind]; rfl
  have h1 : wordAt r.bytes 1 = home.cyl := by
    rw [MapRec.bytes, hkind]
    exact wordAt_u16_append hhomeCyl (u8 home.head :: u16 r.alt.cyl ++ [u8 r.alt.head])
  have h3 : byteAt r.bytes 3 = home.head := by rw [MapRec.bytes, hkind]; exact toNat_u8 hhomeHead
  simp only [mapRecOf, h0, h1, h3, halt, haltHead]
  rw [← hkind]

theorem mapRecOf_bytes_withdrawn {r : MapRec} (hkind : r.kind = .withdrawn) (hcyl : r.alt.cyl < 65536)
    (hhead : r.alt.head < 256) : mapRecOf r.drive r.bytes = some r := by
  obtain ⟨halt, haltHead⟩ := alternate_of_bytes hcyl hhead
  have h0 : byteAt r.bytes 0 = 2 := by rw [MapRec.bytes, hkind]; rfl
  simp only [mapRecOf, h0, halt, haltHead]
  rw [← hkind]

/-- The code of a PENDING record is none that a load takes. -/
theorem mapRecOf_bytes_pending {r : MapRec} {home : Track} (hkind : r.kind = .pending home) :
    mapRecOf r.drive r.bytes = none := by
  have h0 : byteAt r.bytes 0 = 3 := by rw [MapRec.bytes, hkind]; rfl
  simp only [mapRecOf, h0]

/-! ## EXTENTS entries (R177) -/

theorem extentOf_bytes {e : Extent} (h : e.Sound) : extentOf e.bytes = some e := by
  obtain ⟨hlow, hhigh, hgroup, horder, hfenced⟩ := h
  have hdrive := e.drive.isLt
  have h0 : byteAt e.bytes 0 = e.inUse.toNat := toNat_u8_flag _
  have h1 : byteAt e.bytes 1 = e.drive.val := toNat_u8 (by omega)
  have h2 : wordAt e.bytes 2 = e.low := wordAt_u16_append (by omega) []
  have h4 : wordAt e.bytes 4 = e.high := wordAt_u16_append (by omega) []
  have h6 : byteAt e.bytes 6 = if e.cls = .fenced then 1 else 0 := by
    rw [Extent.bytes]
    cases e.cls <;> rfl
  have h7 : byteAt e.bytes 7 = e.group := toNat_u8 (by omega)
  have hset : e.inUse.toNat = 1 → e.low ≤ e.high := fun h => horder (Bool.toNat_eq_one.1 h)
  simp only [extentOf, h0, h1, h2, h4, h6, h7, hdrive, dite_true]
  rw [if_pos ⟨Bool.toNat_le _, hlow, hhigh, by split <;> omega, hgroup, hset, fun h => hfenced (by simpa using h)⟩]
  obtain ⟨inUse, drive, low, high, cls, group⟩ := e
  cases inUse <;> cases cls <;> rfl

/-! ## LADDER steps (R95) -/

theorem ladderStepOf_bytes {x : LadderStep} (hlow : 1 ≤ x.rereads) (hhigh : x.rereads ≤ 4) :
    ladderStepOf x.bytes = some x := by
  have hoffset : offsetOf (byteAt x.bytes 0) = some x.offset := by
    rw [LadderStep.bytes]
    cases x.offset <;> rfl
  have hstrobe : strobeOf (byteAt x.bytes 1) = some x.strobe := by
    rw [LadderStep.bytes]
    cases x.strobe <;> rfl
  have h2 : byteAt x.bytes 2 = x.rereads := toNat_u8 (by omega)
  simp only [ladderStepOf, hoffset, hstrobe, h2]
  exact if_pos ⟨hlow, hhigh⟩

/-! ## The POLICY entry (R178) -/

theorem policyOf_bytes {p : Policy} (h : p.Sound) : policyOf p.bytes = some p := by
  obtain ⟨hwatchLow, hwatch, haging, hmarginLow, hmargin, hstallLow, hstall, hyieldLow, hyield, hidleLow, hidle,
    hpool⟩ := h
  have h0 : byteAt p.bytes 0 = p.watchThreshold := toNat_u8 (by omega)
  have h1 : byteAt p.bytes 1 = p.agingWeight := toNat_u8 (by omega)
  have h2 : byteAt p.bytes 2 = p.margin := toNat_u8 (by omega)
  have h3 : byteAt p.bytes 3 = p.stallLimit := toNat_u8 (by omega)
  have h4 : byteAt p.bytes 4 = p.yieldThreshold := toNat_u8 (by omega)
  have h5 : byteAt p.bytes 5 = p.scanIdle := toNat_u8 (by omega)
  have h6 : byteAt p.bytes 6 = p.poolLow := toNat_u8 (by omega)
  simp only [policyOf, h0, h1, h2, h3, h4, h5, h6]
  exact if_pos ⟨hwatchLow, haging, hmarginLow, hmargin, hstallLow, hstall, hyieldLow, hyield, hidleLow⟩

/-- Settles O60: table by table, each byte of an entry gives its item back. -/
theorem tableEntriesReadBack : Obligations.TableEntriesReadBack := by
  refine ⟨fun _ => geometryOf_bytes, fun _ => profileOf_bytes,
    fun r hcyl hhead => ⟨fun home hkind hhomeCyl hhomeHead => ?_, fun hkind => ?_, fun _ => mapRecOf_bytes_pending⟩,
    fun _ => extentOf_bytes, fun _ => ladderStepOf_bytes, fun _ => policyOf_bytes⟩
  · exact mapRecOf_bytes_active hkind (by omega) (by omega) (by omega) (by omega)
  · exact mapRecOf_bytes_withdrawn hkind (by omega) (by omega)

/-! ## Data frames (R170) -/

/-- The bytes of a table's data frames: pieces of 512 bytes, the last one what remains. -/
def pieces (bs : List Byte) : List (List Byte) :=
  (List.range ((bs.length + 511) / 512)).map fun i => (bs.drop (512 * i)).take 512

theorem dataFrames_eq_map_pieces (bs : List Byte) : dataFrames bs = (pieces bs).map Frame.data := by
  rw [dataFrames, pieces, List.map_map]
  rfl

/-- The first `k` pieces make up the first `512 * k` bytes. -/
theorem flatten_first_pieces (bs : List Byte) (k : Nat) :
    ((List.range k).map fun i => (bs.drop (512 * i)).take 512).flatten = bs.take (512 * k) := by
  induction k with
  | zero => simp
  | succ k ih =>
    rw [List.range_succ, List.map_append, List.flatten_append, ih, Nat.mul_succ, List.take_add]
    simp

theorem flatten_pieces (bs : List Byte) : (pieces bs).flatten = bs := by
  rw [pieces, flatten_first_pieces]
  exact List.take_of_length_le (by omega)

theorem length_of_mem_pieces {bs x : List Byte} (h : x ∈ pieces bs) : 1 ≤ x.length ∧ x.length ≤ 512 := by
  obtain ⟨i, hi, rfl⟩ := List.mem_map.1 h
  have hi := List.mem_range.1 hi
  rw [List.length_take, List.length_drop]
  omega

/-! ## Addressing of a fetch (R171) -/

/-- The entries of a table, counted from its first entry number. -/
def tableSize (table : Nat) : Nat := if table = 2 then 4 else if table = 4 ∨ table = 7 then 16 else 8

/-- A fetch names entries that the table has: a LADDER begins at step 1, POLICY is its one entry (R171). -/
def SoundAddressing (table first count : Nat) : Prop :=
  if table = 5 then first = 1 ∧ 1 ≤ count ∧ count ≤ 16
  else if table = 6 then first = 0 ∧ count = 1
  else 1 ≤ count ∧ first + count ≤ tableSize table

theorem beyond_eq_none_iff (n first count : Nat) :
    beyond n first count = none ↔ 1 ≤ count ∧ first + count ≤ n := by
  unfold beyond
  split
  · simp only [reduceCtorEq, false_iff]; omega
  · split
    · simp only [reduceCtorEq, false_iff]; omega
    · simp only [true_iff]; omega

/-- The fault test of each of the eight tables finds none exactly with sound addressing. -/
theorem addressFault_eq_none_iff {table : Nat} (h1 : 1 ≤ table) (h8 : table ≤ 8) (first count : Nat) :
    addressFault false table first count = none ↔ SoundAddressing table first count := by
  match table, h1, h8 with
  | 1, _, _ => exact beyond_eq_none_iff 8 first count
  | 2, _, _ => exact beyond_eq_none_iff 4 first count
  | 3, _, _ | 4, _, _ | 5, _, _ | 6, _, _ | 7, _, _ | 8, _, _ =>
    simp only [addressFault, SoundAddressing, tableSize, Nat.reduceEqDiff, or_true, or_self, if_true, if_false,
      ite_eq_right_iff, reduceCtorEq, imp_false, Bool.false_eq_true, false_and, or_false, false_or]
    omega

/-! ## FETCH TABLE (R172) -/

/-- The commands of the eight tables are one turn of the decoder, by the table's code. -/
theorem exec_fetchCommand (s : State) (ended : List Path) {table : Nat} (h1 : 1 ≤ table) (h8 : table ≤ 8) :
    exec (fetchCommand ended table) s = s.fetchTurn table ended := by
  match table, h1, h8 with
  | 1, _, _ | 2, _, _ | 3, _, _ | 4, _, _ | 5, _, _ | 6, _, _ | 7, _, _ | 8, _, _ => rfl

theorem rowOf_fetch {f : List Byte} (h : PlainOrder f 0x14) (h1 : 1 ≤ byteAt f 12) (h8 : byteAt f 12 ≤ 8) :
    rowOf f = .fetch (byteAt f 12) := by
  obtain ⟨-, -, hcode, -⟩ := h
  simp [rowOf, hcode, h1, h8]

/-- A plain FETCH TABLE of a table's code passes both checks on every path (R163). -/
theorem firstChecks_fetch {p : Path} {f : List Byte} {table : Nat} (h : PlainOrder f 0x14)
    (hrow : rowOf f = .fetch table) : firstChecks p f = none := by
  have hgood : badOrder p f = false :=
    badOrder_of_plainOrder h (by rw [driveBad, hrow]) (by rw [fieldsBad, hrow]) (by rw [flagsBad, hrow])
  obtain ⟨-, -, -, hdirect⟩ := h
  simp [firstChecks, hgood, notPermitted, serviceOnly, hrow, hdirect]

/-- The frames that answer a fetch. -/
def fetchAnswer (s : State) (table first count : Nat) : List Frame :=
  match addressFault false table first count with
  | some entry => [.ending ⟨none, .tableInvalid, true, false, none, 0, none, entry⟩]
  | none => dataFrames (s.tableBytes table first count) ++
      [.ending ⟨none, .normal, false, false, none, 0, none, none⟩]

theorem fetchAnswer_of_sound {table first count : Nat} (h : addressFault false table first count = none) (s : State) :
    fetchAnswer s table first count = (pieces (s.tableBytes table first count)).map Frame.data ++
      [.ending ⟨none, .normal, false, false, none, 0, none, none⟩] := by
  rw [fetchAnswer, h, dataFrames_eq_map_pieces]

theorem fetchAnswer_of_fault {table first count : Nat} (h : addressFault false table first count ≠ none) (s : State) :
    ∃ entry, fetchAnswer s table first count =
      [.ending ⟨none, .tableInvalid, true, false, none, 0, none, entry⟩] := by
  obtain ⟨entry, hentry⟩ := Option.ne_none_iff_exists'.1 h
  exact ⟨entry, by rw [fetchAnswer, hentry]⟩

/-- The answer to a FETCH TABLE carries no tag and no drive (R165; log entry 59). -/
theorem doFetch_eq {f : List Byte} {table : Nat} (hrow : rowOf f = .fetch table) (s : State) (p : Path) :
    s.doFetch p f = s.send p (fetchAnswer s (byteAt f 12) (byteAt f 13) (wordAt f 14)) := by
  have hanswer (c : Code) (refused : Bool) (entry : Option Nat) :
      answerOf f c refused entry = ⟨none, c, refused, false, none, 0, none, entry⟩ := by
    cases refused <;> simp [answerOf, namedDrive, refusalTag, hrow]
  simp only [State.doFetch, fetchAnswer, hanswer]
  cases addressFault false (byteAt f 12) (byteAt f 13) (wordAt f 14) <;> rfl

/-- A plain FETCH TABLE writes its answer into its port, and changes no more than the decoder's record (R172). -/
theorem exec_fetch {s : State} {ended : List Path} {p : Path} {f : List Byte} (ht : s.takes ended p f)
    (hf : PlainOrder f 0x14) (h1 : 1 ≤ byteAt f 12) (h8 : byteAt f 12 ≤ 8) :
    exec (fetchCommand ended (byteAt f 12)) s = .next { s with
      lastHost := s.lastAfter p
      ports := s.ports.set p (answering s p (fetchAnswer s (byteAt f 12) (byteAt f 13) (wordAt f 14))) } := by
  have hrow := rowOf_fetch hf h1 h8
  rw [exec_fetchCommand s ended h1 h8, State.fetchTurn, decoderTurn_of_takes ht hrow, State.immediate,
    firstChecks_fetch hf hrow, doFetch_eq hrow, noteTaken_eq]
  rfl

/-- Settles O40: the addressing test picks the answer, and the pieces of the data join to the entries. -/
theorem fetchSendsTheEntriesAsTheyStand : Obligations.FetchSendsTheEntriesAsTheyStand := by
  intro s ended p f table ht hf htable h1 h8 first count size sound
  subst htable
  have hsound : addressFault false (byteAt f 12) first count = none ↔ sound := addressFault_eq_none_iff h1 h8 _ _
  refine ⟨_, exec_fetch ht hf h1 h8, ?_, fun h => ?_, fun h => ?_⟩
  all_goals simp only [State.port, PerPath.get_set_same]
  · rfl
  · exact ⟨_, fetchAnswer_of_sound (hsound.2 h) s, flatten_pieces _, fun x => length_of_mem_pieces⟩
  · exact fetchAnswer_of_fault (mt hsound.1 h) s

end Sys2Proof.TableStore
end

section
/-! PROOFS. The step and the queue of waiting commands (chapter 95; log entries 2, 30, 32): a step carries out the command at the front, and every command answers a next state with the same commands waiting. -/

namespace Sys2Proof.CommandQueue
open Sys2Proof.Machine

/-- Settles O1: a step looks at the front of the queue only. -/
theorem stepRunsFrontCommand : Obligations.StepRunsFrontCommand := by
  intro s c rest h
  rw [step, h]
  rfl

/-! ## Operations that keep the waiting commands -/

/-- The waiting commands are among the parts that stand. -/
theorem pending_of_standing {s t : State} (h : t.standing = s.standing) : t.pending = s.pending := by
  simp only [State.standing, Prod.mk.injEq] at h
  obtain ⟨-, -, -, -, -, -, -, -, hpending⟩ := h
  exact hpending

theorem pending_foldl {α : Type} {f : State → α → State} (h : ∀ s x, (f s x).pending = s.pending) (l : List α)
    (s : State) : (l.foldl f s).pending = s.pending :=
  List.foldlRecOn l f (motive := fun t => t.pending = s.pending) rfl fun t ht x _ => (h t x).trans ht

@[simp] theorem pending_settle (s : State) : s.settle.pending = s.pending :=
  pending_of_standing (State.settle_standing s)

@[simp] theorem pending_send (s : State) (p : Path) (fs : List Frame) : (s.send p fs).pending = s.pending := rfl

/-! ### Orders in the decoder's turn (R162–R164) -/

@[simp] theorem pending_noteTaken (s : State) (p : Path) : (s.noteTaken p).pending = s.pending := by
  unfold State.noteTaken
  split <;> rfl

theorem pending_decoderTurn {f : State → Path → List Byte → State}
    (hf : ∀ s p frame, (f s p frame).pending = s.pending) (s : State) (row : OrderRow) (ended : List Path) :
    (s.decoderTurn row ended f).pending = s.pending := by
  unfold State.decoderTurn
  split
  next p _ =>
    split
    · rw [hf, pending_noteTaken]
    · rfl
  · rfl

theorem pending_immediate {k : State → State} (hk : ∀ s, (k s).pending = s.pending) (s : State) (p : Path)
    (f : List Byte) : (s.immediate p f k).pending = s.pending := by
  unfold State.immediate
  split
  · rfl
  · exact hk s

/-- An immediate order keeps the queue when its effect past the checks does. -/
theorem pending_immediateTurn {k : Path → List Byte → State → State}
    (hk : ∀ p f s, (k p f s).pending = s.pending) (s : State) (row : OrderRow) (ended : List Path) :
    (s.decoderTurn row ended fun s p f => s.immediate p f (k p f)).pending = s.pending :=
  pending_decoderTurn (fun s p f => pending_immediate (hk p f) s p f) s row ended

theorem pending_emptyGroup (s : State) (g : Nat) : (s.emptyGroup g).pending = s.pending :=
  pending_of_standing (State.emptyGroup_standing s g)

theorem pending_doSetGroup (s : State) (p : Path) (f : List Byte) : (s.doSetGroup p f).pending = s.pending := by
  unfold State.doSetGroup
  dsimp only
  repeat' split
  · rfl
  · rfl
  · rfl
  · exact pending_emptyGroup (s.setGroup p (byteAt f 12)) _

/-! ### Resets (R168, R169) -/

@[simp] theorem pending_leaveGroup (s : State) (p : Path) : (s.leaveGroup p).pending = s.pending := by
  unfold State.leaveGroup
  split
  · rfl
  · exact pending_emptyGroup (s.setGroup p 0) _

theorem pending_resetPath (s : State) (p : Path) : (s.resetPath p).pending = s.pending := by
  have hdrop (s : State) : (allDrives.foldl (fun s d => s.dropPathOn p d) s).pending = s.pending :=
    pending_foldl (fun s d => pending_of_standing (State.dropPathOn_standing s p d)) allDrives s
  unfold State.resetPath
  dsimp only
  split <;> simp [hdrop]

/-! ### Loads of the tables (R173–R178) -/

theorem pending_takeGeometry (s : State) (d : Drive) (g : Geometry) : (s.takeGeometry d g).pending = s.pending := by
  unfold State.takeGeometry
  dsimp only
  split
  · rfl
  · calc _ = ((s.abandonScan d).setGeom d g).pending := pending_of_standing (by simp)
      _ = (s.abandonScan d).pending := rfl
      _ = s.pending := pending_of_standing (State.abandonScan_standing s d)

theorem pending_takeProfile (s : State) (i : Fin 4) (p : List SeekPoint) :
    (s.takeProfile i p).pending = s.pending := by
  unfold State.takeProfile
  split
  · rfl
  · refine pending_foldl (fun s d => pending_of_standing ?_) allDrives (s.setProfiles (s.profiles.set i p))
    split
    · exact State.trySpinCheck_standing s d
    · rfl

theorem pending_takeLoad (s : State) (j : LoadJob) : (s.takeLoad j).pending = s.pending := by
  unfold State.takeLoad
  split
  · refine pending_foldl (fun s i => ?_) _ s
    split
    · exact pending_takeGeometry s _ _
    · rfl
  · refine pending_foldl (fun s i => ?_) _ s
    split
    · exact pending_takeProfile s _ _
    · rfl
  · split
    · exact pending_of_standing (State.takeSpareMap_standing s _ _)
    · rfl
  · exact (pending_of_standing (State.retestAll_standing _)).trans rfl
  · rfl
  · split <;> rfl
  · rfl

theorem pending_endLoad (s : State) (p : Path) (j : LoadJob) : (s.endLoad p j).pending = s.pending := by
  unfold State.endLoad
  dsimp only
  split
  · rfl
  · exact pending_takeLoad (s.setLoad none) j

theorem pending_tableData (s : State) (p : Path) (data : List Byte) (last : Bool) :
    (s.tableData p data last).pending = s.pending := by
  unfold State.tableData
  split
  · dsimp only
    split
    · split
      · rw [pending_settle, pending_endLoad]
      · rfl
    · rfl
  · rfl

/-! ### Events and tries -/

theorem takeEvent_standing (s : State) (e : MissEvent) : (s.takeEvent e).standing = s.standing := by
  cases e with
  | pulse d m => exact State.sectorPulse_standing s d m
  | index d => exact State.indexPulse_standing s d
  | orderFrame p f => exact State.beginOrder_standing s p f

theorem startReloc_standing (n : Nat) (s : State) : (State.startReloc n s).standing = s.standing := by
  induction n generalizing s with
  | zero => rfl
  | succ n ih =>
    unfold State.startReloc
    split
    · rfl
    · split
      · simp
      all_goals simp [ih]

/-! ## Commands that complete -/

/-- The outcome is a next state that has the commands of `s` waiting. -/
def Completes (s : State) (o : Result) : Prop := ∃ t : State, o = .next t ∧ t.pending = s.pending

theorem completes_next {s t : State} (h : t.pending = s.pending) : Completes s (.next t) := ⟨t, rfl, h⟩

theorem completes_unchanged (s : State) : Completes s (.next s) := completes_next rfl

theorem completes_of_standing {s t : State} (h : t.standing = s.standing) : Completes s (.next t) :=
  completes_next (pending_of_standing h)

theorem completes_settled {s t : State} (h : t.standing = s.standing) : Completes s (.next t.settle) :=
  completes_of_standing ((State.settle_standing t).trans h)

/-- A command without effect where its condition fails (log entry 2). -/
theorem completes_ite {s : State} {c : Prop} [Decidable c] {o : Result} (h : Completes s o) :
    Completes s (if c then o else .next s) := by
  split
  · exact h
  · exact completes_unchanged s

theorem queuedTurn_completes (s : State) (o : QOrder) (gone : Bool) (ended : List Path) :
    Completes s (s.queuedTurn o gone ended) := by
  refine completes_next ((pending_settle _).trans ?_)
  exact pending_decoderTurn (fun s p f => pending_of_standing (State.takeQueued_standing s o gone p f)) s _ ended

theorem fetchTurn_completes (s : State) (table : Nat) (ended : List Path) : Completes s (s.fetchTurn table ended) :=
  completes_next (pending_immediateTurn (fun p f s => pending_of_standing (State.doFetch_standing s p f)) s _ ended)

theorem onlineFall_completes (d : Drive) (s : State) : Completes s (execOnlineFall d s) := by
  unfold execOnlineFall
  dsimp only
  split
  · exact completes_settled (by simp)
  · exact completes_next rfl

theorem seekComplete_completes (d : Drive) (s : State) : Completes s (execSeekComplete d s) := by
  unfold execSeekComplete
  split
  · exact completes_settled (by simp)
  · exact completes_settled (by simp)
  · exact completes_unchanged s

theorem faultRise_completes (d : Drive) (s : State) : Completes s (execFaultRise d s) := by
  unfold execFaultRise
  dsimp only
  split
  · exact completes_settled (by simp)
  · exact completes_next rfl

theorem assignAlternate_completes (ended : List Path) (s : State) : Completes s (execAssignAlternate ended s) := by
  refine completes_next (pending_immediateTurn (fun p f s => pending_of_standing ?_) s _ ended)
  repeat' split
  all_goals simp

theorem forceRelease_completes (ended : List Path) (s : State) : Completes s (execForceRelease ended s) := by
  refine completes_next (pending_immediateTurn (fun p f s => pending_of_standing ?_) s _ ended)
  repeat' split
  all_goals simp

theorem directorReset_completes (ended : List Path) (s : State) : Completes s (execDirectorReset ended s) := by
  refine completes_next ((pending_settle _).trans ?_)
  exact pending_immediateTurn (fun p f s => pending_of_standing (by simp)) s _ ended

theorem accept_completes (p : Path) (frame : List Byte) (s : State) : Completes s (execAccept p frame s) := by
  unfold execAccept
  split
  · exact completes_ite (completes_of_standing (State.connect_standing s _ p _))
  · exact completes_unchanged s

theorem dataFrame_completes (p : Path) (data : List Byte) (last : Bool) (s : State) :
    Completes s (execDataFrame p data last s) := by
  unfold execDataFrame
  split
  · exact completes_of_standing (State.stageData_standing s _ _ data)
  · exact completes_next (pending_tableData s p data last)

theorem frameSent_completes (p : Path) (portFirst : Bool) (s : State) : Completes s (execFrameSent p portFirst s) := by
  unfold execFrameSent
  split
  · exact completes_of_standing (State.outGone_standing s p portFirst)
  · split
    · exact completes_settled (State.blockTaken_standing s _ _)
    · exact completes_unchanged s
  · exact completes_unchanged s

theorem sectorEnd_completes (d : Drive) (y : Yield) (s : State) : Completes s (execSectorEnd d y s) := by
  unfold execSectorEnd
  split
  · exact completes_ite (completes_settled (State.endSector_standing s _ y))
  · exact completes_unchanged s

theorem relocationStart_completes (s : State) : Completes s (execRelocationStart s) := by
  unfold execRelocationStart
  split
  · exact completes_unchanged s
  · exact completes_settled (startReloc_standing _ s)

theorem readPassRevolutionEnd_completes (s : State) : Completes s (execReadPassRevolutionEnd s) := by
  unfold execReadPassRevolutionEnd
  split
  · exact completes_ite (completes_settled (State.readPassEnd_standing s _))
  · exact completes_unchanged s

theorem trackWalkRevolutionEnd_completes (s : State) : Completes s (execTrackWalkRevolutionEnd s) := by
  unfold execTrackWalkRevolutionEnd
  split
  · exact completes_ite (completes_settled (State.trackWalkEnd_standing s _ _))
  · exact completes_unchanged s

theorem verifyRevolutionEnd_completes (s : State) : Completes s (execVerifyRevolutionEnd s) := by
  unfold execVerifyRevolutionEnd
  split
  · refine completes_ite (completes_settled ?_)
    split
    · exact State.commitDone_standing s _
    · exact State.verifyFailed_standing s _
  · exact completes_unchanged s

/-- Settles O3: command by command, its arm answers a next state over operations that keep the waiting commands. -/
theorem everyCommandCompletesAndKeepsTheQueue : Obligations.EveryCommandCompletesAndKeepsTheQueue := by
  intro c s
  change Completes s (exec c s)
  cases c with
  | powerOnReset => exact completes_next rfl
  | onlineRise d => exact completes_of_standing (State.trySpinCheck_standing _ d)
  | onlineFall d => exact onlineFall_completes d s
  | gateOpen d high => exact completes_ite (completes_next rfl)
  | gateClose d high => exact completes_settled (State.closeGate_standing s d high)
  | spinCheckGiveUp d high => exact completes_ite (completes_settled (State.closeGate_standing s d high))
  | indexPulse d => exact completes_settled (State.indexPulse_standing s d)
  | clockFault d => exact completes_ite (completes_settled (State.indexPulse_standing s d))
  | sectorPulse d mark => exact completes_settled (State.sectorPulse_standing s d mark)
  | seekComplete d => exact seekComplete_completes d s
  | seekLimit d => exact completes_ite (completes_settled (State.enterFaulted_standing _ d .seek))
  | faultRise d => exact faultRise_completes d s
  | orderFrameBegin p frame => exact completes_ite (completes_settled (State.beginOrder_standing s p frame))
  | read ended | write ended | verify ended | position ended | reserve ended | release ended =>
    exact queuedTurn_completes s _ false ended
  | recalibrate ended gone => exact queuedTurn_completes s .recalibrate gone ended
  | setGroup ended => exact completes_next (pending_immediateTurn (fun p f s => pending_doSetGroup s p f) s _ ended)
  | setNotices ended | clearNotices ended | reportCondition ended | loadTable ended =>
    refine completes_next (pending_immediateTurn (fun p f s => ?_) s _ ended)
    rfl
  | fetchGeometry ended | fetchProfile ended | fetchSpareMap ended | fetchExtents ended | fetchLadder ended
  | fetchPolicy ended | fetchWatch ended | fetchDriveStatus ended => exact fetchTurn_completes s _ ended
  | resetPath p => exact completes_next ((pending_settle _).trans (pending_resetPath s p))
  | assignAlternate ended => exact assignAlternate_completes ended s
  | forceRelease ended => exact forceRelease_completes ended s
  | directorReset ended => exact directorReset_completes ended s
  | accept p frame => exact accept_completes p frame s
  | dataFrame p data last => exact dataFrame_completes p data last s
  | frameSent p portFirst => exact frameSent_completes p portFirst s
  | endingFrameBegin p => exact completes_ite (completes_of_standing (State.beginEnding_standing s p))
  | noticeFrameBegin p => exact completes_ite (completes_of_standing (State.beginNotice_standing s p))
  | selection d => exact completes_ite (completes_settled (State.select_standing s d))
  | stalled e => exact completes_ite (completes_settled (takeEvent_standing s e))
  | sectorEnd d yield => exact sectorEnd_completes d yield s
  | relocationStart => exact relocationStart_completes s
  | readPassRevolutionEnd => exact readPassRevolutionEnd_completes s
  | trackWalkRevolutionEnd => exact trackWalkRevolutionEnd_completes s
  | commitBegin => exact completes_settled (State.beginCommit_standing s)
  | verifyRevolutionEnd => exact verifyRevolutionEnd_completes s
  | scanPassStart d => exact completes_settled (State.tryScan_standing s d)
  | scanPassComplete d => exact completes_ite (completes_settled (State.completeScan_standing s d))
  | unknownOrderCode ended => exact completes_next (pending_decoderTurn (fun s p _ => pending_send s p _) s _ ended)

end Sys2Proof.CommandQueue
end
